-- ==== Sys2Proof/Word.lean ====
section
/-! DEFINITION. The word types of the block: a byte and a 48-bit identity (spec 00_scope.md R12). -/

namespace Sys2Proof

/-- "A byte is 8 bits" (R12); bit 0 is the least significant. -/
abbrev Byte := BitVec 8

/-- An identity as a 48-bit vector: byte `i` is bits `[8i+7 : 8i]` (R12, R64). -/
abbrev Ident := BitVec 48

end Sys2Proof
end

