-- ==== Sys2Proof/Config.lean ====
section
/-! DEFINITION. The constants the document fixes (00_scope.md R9), the parameters it leaves open (R10), and the values the
spec leaves free (93_implementation_defined.md). A free value is an opaque constant: nothing can be proved of it. -/

namespace Sys2Proof

/-- The open parameters of R10 that a rule reads. They are "parameters of the step relation, not state" (R52):
no operation writes them (log 3). `BIT_DIV` and `CAR_DIV` are held less one, so that 0 cannot be written
("a model must refuse `BIT_DIV = 0`", R226, D5). -/
structure Config where
  /-- `LOCAL_ID`, the 48-bit local identity (R10, R52). -/
  localId : Ident
  /-- `BIT_DIV - 1`. -/
  bitDivPred : Nat
  /-- `CAR_DIV - 1`. -/
  carDivPred : Nat
deriving DecidableEq, Repr, Inhabited

/-- `BIT_DIV`, the `clk` cycles of one bit period, an integer >= 1 (R10). -/
def Config.bitDiv (c : Config) : Nat := c.bitDivPred + 1

/-- `CAR_DIV`, the `clk` cycles of one carrier period (R10). -/
def Config.carDiv (c : Config) : Nat := c.carDivPred + 1

/-- The least `w` from `start` on with `2^w >= d`, looked for `fuel` times. -/
def leastWidth (d start : Nat) : (fuel : Nat) → Nat
  | 0 => start
  | fuel + 1 => if d ≤ 2 ^ start then start else leastWidth d (start + 1) fuel

/-- `CNT_W`, the width of a BitClock counter: "the least w with 2^w >= BIT_DIV (at least 1)" (R10, D5). -/
def Config.cntW (c : Config) : Nat := leastWidth c.bitDiv 1 c.bitDiv

/-- The parameters of the device at hand: OPEN in R10, so an opaque constant. DESIGN CHOICE (log 3). -/
opaque Config.chip : Config

/-- `PREAMBLE1`, 0x5A (R9). -/
def Config.preamble1 : Byte := 0x5A#8

/-- `PREAMBLE2`, 0x54 (R9). The two "must differ" (R9), and do. DESIGN CHOICE to hold them as constants (log 4). -/
def Config.preamble2 : Byte := 0x54#8

/-- `BAUD`, 2400 bit/s (R9, R280). -/
def Config.baud : Nat := 2400

/-- `F_CARRIER`, 38 kHz (R9, R282). -/
def Config.fCarrier : Nat := 38000

/-- `round(F_CLK / rate)`, halves upward: the nominal `BIT_DIV` with `BAUD` and the nominal `CAR_DIV` with `F_CARRIER`
(R10, R280, D31). No rule of the machine reads it. -/
def Config.nominalDiv (fClk rate : Nat) : Nat := (2 * fClk + rate) / (2 * rate)

/-- The phase of the carrier against the slot boundary: unspecified (R36, R140, U10), so free (log 14). -/
opaque Config.carrierPhase : Nat

/-- What the pin `mb_data` shows while `mb_ready = 0`: "any value" (U2, R51), so a free function of the slot (log 16). -/
opaque Config.idleMbData : Ident → Ident

/-- `send_ok` in a cycle with `rst = 1`: "any value" (U11), so free (log 16). -/
opaque Config.sendOkInReset : Bool

end Sys2Proof
end

