-- ==== Sys2Proof/Syntax.lean ====
section
/-! DEFINITION. The syntax: one constructor of `Instr` for each of the 55 rows of spec/opcode_table.json (30_encoding.md R101),
the formats that select them (R80, R90 to R94), and a coded selection. -/

namespace Sys2Proof

/-- The rows of the table. The operands are those the spec's operations have (`level`, `ok`, `id`) and the letters of a
pattern that a rule uses (`k`, `v`, `y`, the bits of a byte or an identity); a bit the spec calls "not examined" is no operand. -/
inductive Instr where
  -- format EV (R90): the operations an edge can select
  /-- RESET (R250). -/
  | reset
  /-- MB_READ (R202). -/
  | mbRead
  /-- SEND(id) (R131). -/
  | send (id : Ident)
  /-- INIT_RX(ok) (R116). -/
  | initRx (ok : Bool)
  /-- INIT_TX(ok) (R117). -/
  | initTx (ok : Bool)
  /-- RX_TICK(level) (R152). -/
  | rxTick (level : Bool)
  /-- TX_TICK (R133). -/
  | txTick
  /-- NOP, EV = 0000000 (R97). -/
  | nop
  /-- BC_CLK of both instances (R114). -/
  | bcClk
  -- format RXD (R91): the sub-cases of RX_TICK
  /-- RX_TICK.idle_high. -/
  | rxTickIdleHigh
  /-- RX_TICK.start. -/
  | rxTickStart
  /-- RX_TICK.data: `idx` is `rx_idx[3:0]` of the pattern `10kkkv` (so below 8), `v` the sampled level. -/
  | rxTickData (idx : BitVec 4) (v : Bool)
  /-- RX_TICK.stop: `level` is sampled and ignored. -/
  | rxTickStop (level : Bool)
  -- format SYD (R92): the sub-cases of BYTE_DONE
  /-- BYTE_DONE.wp1_hit. -/
  | byteDoneWp1Hit
  /-- BYTE_DONE.wp1_miss. -/
  | byteDoneWp1Miss
  /-- BYTE_DONE.wp2_hit. -/
  | byteDoneWp2Hit
  /-- BYTE_DONE.wp2_miss. -/
  | byteDoneWp2Miss
  /-- BYTE_DONE.col_store. -/
  | byteDoneColStore
  /-- BYTE_DONE.col_last. -/
  | byteDoneColLast
  -- format TXD (R93): the sub-cases of TX_TICK; `y` is `tx_byte[3:0]` of the pattern `0yyy....` (so below 8)
  /-- TX_TICK.start. -/
  | txTickStart (y : BitVec 4)
  /-- TX_TICK.data.d0. -/
  | txTickDataD0 (y : BitVec 4)
  /-- TX_TICK.data.d1. -/
  | txTickDataD1 (y : BitVec 4)
  /-- TX_TICK.data.d2. -/
  | txTickDataD2 (y : BitVec 4)
  /-- TX_TICK.data.d3. -/
  | txTickDataD3 (y : BitVec 4)
  /-- TX_TICK.data.d4. -/
  | txTickDataD4 (y : BitVec 4)
  /-- TX_TICK.data.d5. -/
  | txTickDataD5 (y : BitVec 4)
  /-- TX_TICK.data.d6. -/
  | txTickDataD6 (y : BitVec 4)
  /-- TX_TICK.data.d7. -/
  | txTickDataD7 (y : BitVec 4)
  /-- TX_TICK.stop. -/
  | txTickStop (y : BitVec 4)
  /-- TX_TICK.end. -/
  | txTickEnd
  -- format HSD (R94): the sub-cases of the host operations and of FRAME_EMIT
  /-- SEND.accept. -/
  | sendAccept (id : Ident)
  /-- SEND.reject_disabled. -/
  | sendRejectDisabled
  /-- SEND.reject_busy. -/
  | sendRejectBusy
  /-- MB_READ.full. -/
  | mbReadFull
  /-- MB_READ.empty. -/
  | mbReadEmpty
  /-- INIT_RX.ok. -/
  | initRxOk
  /-- INIT_RX.fail. -/
  | initRxFail
  /-- INIT_RX.ignored.enabled. -/
  | initRxIgnoredEnabled
  /-- INIT_RX.ignored.failed. -/
  | initRxIgnoredFailed
  /-- INIT_TX.ok. -/
  | initTxOk
  /-- INIT_TX.fail. -/
  | initTxFail
  /-- INIT_TX.ignored.enabled. -/
  | initTxIgnoredEnabled
  /-- INIT_TX.ignored.failed. -/
  | initTxIgnoredFailed
  /-- FRAME_EMIT.drop. -/
  | frameEmitDrop
  /-- FRAME_EMIT.forward. -/
  | frameEmitForward
  -- the internal operations, listed with the pattern of the sub-case that calls them (R101)
  /-- BC_START of the RX instance, called by INIT_RX.ok (R112). -/
  | bcStartRx
  /-- BC_START of the TX instance, called by SEND.accept (R112). -/
  | bcStartTx
  /-- BC_STOP, with the pattern of TX_TICK.end (R113). -/
  | bcStop
  /-- BYTE_DONE, called by RX_TICK.stop (R172). -/
  | byteDone
  /-- FRAME_EMIT, called by BYTE_DONE.col_last (R191). -/
  | frameEmit
  /-- MB_WRITE, called by FRAME_EMIT.forward (R201). -/
  | mbWrite
  -- the wire formats
  /-- CHAR: one byte on the wire (R81). -/
  | char (b : Byte)
  /-- FRAME: preamble and identity on the wire (R82). -/
  | frame (id : Ident)
  /-- ID48: an identity on a port (R64). -/
  | id48 (id : Ident)
  /-- IVL: the envelope of a frame, which the interval list run-length codes (R88). -/
  | ivl (id : Ident)
deriving DecidableEq, Repr

/-- Which vector a code holds. EV, RXD, SYD, TXD, the vectors of HSD one by one (R94 gives one for each operation), the wire
formats, and (DESIGN CHOICE, log 8) a format of its own for the clocked edge and for each internal operation, whose row has
the pattern of the sub-case that calls it (R101), so that every row has a code of its own. -/
inductive Format where
  /-- EV: the operations of one timeless step (R90, R119). -/
  | ev
  /-- EV at one `clk` edge, whose bits 1 and 0 the two BitClocks make (R90, R114, R229). -/
  | clk
  /-- RXD: the vector of RX_TICK's busy flag, index and level (R91). -/
  | rxd
  /-- SYD: the vector of the Synchronizer's state and its three tests (R92). -/
  | syd
  /-- TXD: the vector of the transmit position (R93). -/
  | txd
  /-- HSD of SEND: `tx_en`, `tx_busy` (R94). -/
  | hsdSend
  /-- HSD of MB_READ: `mb_ready` (R94). -/
  | hsdMbRead
  /-- HSD of INIT_RX: `rx_en`, `rx_err`, `ok` (R94). -/
  | hsdInitRx
  /-- HSD of INIT_TX: `tx_en`, `tx_err`, `ok` (R94). -/
  | hsdInitTx
  /-- HSD of FRAME_EMIT: `same` (R94). -/
  | hsdEmit
  /-- BC_START.RX, with INIT_RX's HSD vector. -/
  | callBcStartRx
  /-- BC_START.TX, with SEND's HSD vector. -/
  | callBcStartTx
  /-- BC_STOP, with the TXD vector. -/
  | callBcStop
  /-- BYTE_DONE, with the RXD vector. -/
  | callByteDone
  /-- FRAME_EMIT, with the SYD vector. -/
  | callFrameEmit
  /-- MB_WRITE, with FRAME_EMIT's HSD vector. -/
  | callMbWrite
  /-- CHAR, ten logic bits, first slot in the most significant bit (R81). -/
  | char
  /-- FRAME, eighty logic bits, first slot in the most significant bit (R82). -/
  | frame
  /-- ID48, forty-eight bits (R64). -/
  | id48
  /-- IVL, eighty envelope levels, first slot in the most significant bit (R88). -/
  | ivl
deriving DecidableEq, Repr

/-- A coded selection: a format and its bits, right aligned. -/
structure Code where
  fmt : Format
  bits : BitVec 80
deriving DecidableEq, Repr

/-- Why a code names no single row. -/
inductive Reject where
  /-- An EV vector with several operations: a set of operations, not one (R90). Safe. -/
  | severalOperations
  /-- A vector whose state value no operation produces (R91 to R93, R97). Safe. -/
  | unreachablePattern
  /-- Bits that differ from a fixed bit of the row's pattern. Safe. -/
  | notThePattern
deriving DecidableEq, Repr

/-- Whether the format selects an operation that only another operation performs (R19 "internal", R15). -/
def Format.internal : Format → Bool
  | .syd | .hsdEmit | .callBcStartRx | .callBcStartTx | .callBcStop | .callByteDone | .callFrameEmit | .callMbWrite => true
  | .ev | .clk | .rxd | .txd | .hsdSend | .hsdMbRead | .hsdInitRx | .hsdInitTx | .char | .frame | .id48 | .ivl => false

end Sys2Proof
end

