-- ==== Sys2Proof/Decode.lean ====
section
/-! DEFINITION. The wire formats bit by bit (30_encoding.md R81 to R88), the select vectors (R90 to R94) read by `decode`, and
`encode`, which writes them. -/

namespace Sys2Proof

/-! ## Identities and frames (20_memory.md R62 to R64) -/

/-- Byte `i` of an identity: bits `[8i+7 : 8i]` (R64). -/
def identByte (id : Ident) (i : Nat) : Byte := id.extractLsb' (8 * i) 8

/-- A byte at bit position `n` of an identity, zeros elsewhere. -/
def byteAt (b : Byte) (n : Nat) : Ident := b.setWidth 48 <<< n

/-- The identity whose byte `i` is `b<i>`, packed as R64 says: `b0` is the least significant byte. -/
def packIdent (b0 b1 b2 b3 b4 b5 : Byte) : Ident :=
  byteAt b0 0 ||| byteAt b1 8 ||| byteAt b2 16 ||| byteAt b3 24 ||| byteAt b4 32 ||| byteAt b5 40

/-- `FrameBytes(id)` (R85): the preamble, then the identity, `id[0]` first (R62). -/
def frameBytes (id : Ident) : Vector Byte 8 :=
  #v[Config.preamble1, Config.preamble2, identByte id 0, identByte id 1, identByte id 2, identByte id 3, identByte id 4,
    identByte id 5]

/-! ## Slots (R81 to R88). A level or logic bit is a Bool, `true` for 1. -/

/-- `SlotBit(b, s)` (R85): the start bit 0, data bits least significant first, the stop bit 1. -/
def slotBit (b : Byte) (s : Nat) : Bool :=
  if s = 0 then false else if s = 9 then true else b.getLsbD (s - 1)

/-- `tx_env = !bit` (R83). -/
def envOf (bit : Bool) : Bool := !bit

/-- `SlotEnv(b, s)` (R85). -/
def slotEnv (b : Byte) (s : Nat) : Bool := envOf (slotBit b s)

/-- The ten logic bits of a character, in time order (R81). -/
def charSlots (b : Byte) : List Bool := (List.range 10).map (slotBit b)

/-- `FrameEnv(id)` (R85): level `n` is `SlotEnv(FrameBytes(id)[n div 10], n mod 10)`, for `n` = 0 .. 79. -/
def frameEnv (id : Ident) : List Bool :=
  (List.range 80).map fun n => slotEnv ((frameBytes id).toList.getD (n / 10) 0#8) (n % 10)

/-- The eighty logic bits of a frame, which a receiver sees as levels (R82, R84). -/
def frameSlots (id : Ident) : List Bool := (frameEnv id).map (fun e => !e)

/-- One data bit at its position of a byte, zeros elsewhere (R14 `b << n`). -/
def bitAt (v : Bool) (n : Nat) : Byte := if v then 1#8 <<< n else 0#8

/-- `AsmByte` (R87): the byte whose bit `k` is the `k`-th level. -/
def asmByte (l1 l2 l3 l4 l5 l6 l7 l8 : Bool) : Byte :=
  bitAt l1 0 ||| bitAt l2 1 ||| bitAt l3 2 ||| bitAt l4 3 ||| bitAt l5 4 ||| bitAt l6 5 ||| bitAt l7 6 ||| bitAt l8 7

/-- One slot put in front of an interval list: a pair is a mark's length and the length of the space after it. -/
def addSlot (mark : Bool) (ps : List (Nat × Nat)) : List (Nat × Nat) :=
  match mark, ps with
  | true, (m, n) :: rest => (m + 1, n) :: rest
  | true, [] => [(1, 0)]
  | false, (0, n) :: rest => (0, n + 1) :: rest
  | false, ps => (0, 1) :: ps

/-- Run-length coding of a level list, merged (R88). -/
def runLength (levels : List Bool) : List (Nat × Nat) := levels.foldr addSlot []

/-- `Intervals(id)` (R88). -/
def intervals (id : Ident) : List (Nat × Nat) := runLength (frameEnv id)

/-- The levels an interval list replays: each mark, then each space, one level for each bit period (R88, R139). -/
def replayLevels : List (Nat × Nat) → List Bool
  | [] => []
  | (m, n) :: rest => List.replicate m true ++ (List.replicate n false ++ replayLevels rest)

/-! ## The wire formats as bits, first slot most significant -/

/-- CHAR's pattern `0abcdefgh1` with `a` = `b[0]` (R81). -/
def charBits (b : Byte) : BitVec 10 := 0#1 ++ (b.reverse ++ 1#1)

/-- The byte of a CHAR pattern, if its start and stop bits are the pattern's. -/
def unCharBits (c : BitVec 10) : Option Byte :=
  if c.extractLsb' 9 1 = 0#1 ∧ c.extractLsb' 0 1 = 1#1 then some (c.extractLsb' 1 8).reverse else none

/-- A field at bit position `n` of a code, zeros elsewhere. -/
def fieldAt (x : BitVec w) (n : Nat) : BitVec 80 := x.setWidth 80 <<< n

/-- FRAME's pattern: eight CHARs with no gap, the first in the most significant bits (R82). -/
def frameBits (id : Ident) : BitVec 80 :=
  fieldAt (charBits Config.preamble1) 70 ||| fieldAt (charBits Config.preamble2) 60 |||
    fieldAt (charBits (identByte id 0)) 50 ||| fieldAt (charBits (identByte id 1)) 40 |||
    fieldAt (charBits (identByte id 2)) 30 ||| fieldAt (charBits (identByte id 3)) 20 |||
    fieldAt (charBits (identByte id 4)) 10 ||| fieldAt (charBits (identByte id 5)) 0

/-- The identity of a FRAME pattern, if every fixed bit is the pattern's. -/
def unFrameBits (f : BitVec 80) : Option Ident :=
  if f.extractLsb' 70 10 = charBits Config.preamble1 ∧ f.extractLsb' 60 10 = charBits Config.preamble2 then
    match unCharBits (f.extractLsb' 50 10), unCharBits (f.extractLsb' 40 10), unCharBits (f.extractLsb' 30 10),
      unCharBits (f.extractLsb' 20 10), unCharBits (f.extractLsb' 10 10), unCharBits (f.extractLsb' 0 10) with
    | some b0, some b1, some b2, some b3, some b4, some b5 => some (packIdent b0 b1 b2 b3 b4 b5)
    | _, _, _, _, _, _ => none
  else none

/-! ## EV and the operands that stand beside it

Bits 6..0 are EV (R90). DESIGN CHOICE (log 8): bit 8 is the level on `rx_in`, bit 9 `init_rx_ok`, bit 10 `init_tx_ok`, bits
63..16 `send_id` (the pins of R21 that the table gives no bits). -/

/-- EV, seven bits (R90). -/
def evOf (bits : BitVec 80) : BitVec 7 := bits.extractLsb' 0 7

def evRst (bits : BitVec 80) : Bool := bits.getLsbD 6
def evMbRd (bits : BitVec 80) : Bool := bits.getLsbD 5
def evSendReq (bits : BitVec 80) : Bool := bits.getLsbD 4
def evInitRx (bits : BitVec 80) : Bool := bits.getLsbD 3
def evInitTx (bits : BitVec 80) : Bool := bits.getLsbD 2
def evRxTick (bits : BitVec 80) : Bool := bits.getLsbD 1
def evTxTick (bits : BitVec 80) : Bool := bits.getLsbD 0

/-- The level on `rx_in`. -/
def pinRxIn (bits : BitVec 80) : Bool := bits.getLsbD 8
/-- The draw `init_rx_ok`. -/
def pinInitRxOk (bits : BitVec 80) : Bool := bits.getLsbD 9
/-- The draw `init_tx_ok`. -/
def pinInitTxOk (bits : BitVec 80) : Bool := bits.getLsbD 10
/-- The identity on `send_id`. -/
def pinSendId (bits : BitVec 80) : Ident := bits.extractLsb' 16 48

/-- EV and the one-bit operands, as the low sixteen bits of a code. -/
def evLow (ev : BitVec 7) (level okRx okTx : Bool) : BitVec 16 :=
  0#5 ++ (BitVec.ofBool okTx ++ (BitVec.ofBool okRx ++ (BitVec.ofBool level ++ (0#1 ++ ev))))

/-- A code of an EV format. -/
def evBits (ev : BitVec 7) (level okRx okTx : Bool) (id : Ident) : BitVec 80 :=
  fieldAt (evLow ev level okRx okTx) 0 ||| fieldAt id 16

/-- The one operation of an EV vector: RESET whatever the other bits are, else the only bit set, NOP where none is (R90, R97). -/
def decodeEv (bits : BitVec 80) : Except Reject Instr :=
  if evRst bits then .ok .reset
  else if evOf bits = 0x00#7 then .ok .nop
  else if evOf bits = 0x20#7 then .ok .mbRead
  else if evOf bits = 0x10#7 then .ok (.send (pinSendId bits))
  else if evOf bits = 0x08#7 then .ok (.initRx (pinInitRxOk bits))
  else if evOf bits = 0x04#7 then .ok (.initTx (pinInitTxOk bits))
  else if evOf bits = 0x02#7 then .ok (.rxTick (pinRxIn bits))
  else if evOf bits = 0x01#7 then .ok .txTick
  else .error .severalOperations

/-- A clock edge with no request is BC_CLK alone, one with `rst` is RESET alone (R114, R229); any other names several. -/
def decodeClk (bits : BitVec 80) : Except Reject Instr :=
  if evRst bits then .ok .reset
  else if (bits.extractLsb' 2 4 : BitVec 4) = 0#4 then .ok .bcClk
  else .error .severalOperations

/-! ## The sub-case vectors -/

/-- RXD: `rx_busy`, `rx_idx[3:0]`, `level`, most significant first (R91). -/
def decodeRxd (v : BitVec 6) : Except Reject Instr :=
  let idx : BitVec 4 := v.extractLsb' 1 4
  let level := v.getLsbD 0
  if v.getLsbD 5 = false then .ok (if level then .rxTickIdleHigh else .rxTickStart)
  else if idx.toNat < 8 then .ok (.rxTickData idx level)
  else if idx = 8#4 then .ok (.rxTickStop level)
  else .error .unreachablePattern

/-- SYD: `sy_state[1:0]`, `eq1`, `eq2`, `last`, most significant first (R92). -/
def decodeSyd (v : BitVec 5) : Except Reject Instr :=
  let sy : BitVec 2 := v.extractLsb' 3 2
  if sy = 0#2 then .ok (if v.getLsbD 2 then .byteDoneWp1Hit else .byteDoneWp1Miss)
  else if sy = 1#2 then .ok (if v.getLsbD 1 then .byteDoneWp2Hit else .byteDoneWp2Miss)
  else if sy = 2#2 then .ok (if v.getLsbD 0 then .byteDoneColLast else .byteDoneColStore)
  else .error .unreachablePattern

/-- TXD: `tx_byte[3:0]`, `tx_bit[3:0]`, most significant first (R93, R101). -/
def decodeTxd (v : BitVec 8) : Except Reject Instr :=
  let y : BitVec 4 := v.extractLsb' 4 4
  let slot : BitVec 4 := v.extractLsb' 0 4
  if v = 0x80#8 then .ok .txTickEnd
  else if y.toNat < 8 then
    if slot = 0#4 then .ok (.txTickStart y)
    else if slot = 1#4 then .ok (.txTickDataD0 y)
    else if slot = 2#4 then .ok (.txTickDataD1 y)
    else if slot = 3#4 then .ok (.txTickDataD2 y)
    else if slot = 4#4 then .ok (.txTickDataD3 y)
    else if slot = 5#4 then .ok (.txTickDataD4 y)
    else if slot = 6#4 then .ok (.txTickDataD5 y)
    else if slot = 7#4 then .ok (.txTickDataD6 y)
    else if slot = 8#4 then .ok (.txTickDataD7 y)
    else if slot = 9#4 then .ok (.txTickStop y)
    else .error .unreachablePattern
  else .error .unreachablePattern

/-- HSD of SEND: `tx_en`, `tx_busy` (R94). -/
def decodeHsdSend (v : BitVec 2) (id : Ident) : Except Reject Instr :=
  if v.getLsbD 1 = false then .ok .sendRejectDisabled
  else if v.getLsbD 0 then .ok .sendRejectBusy else .ok (.sendAccept id)

/-- HSD of MB_READ: `mb_ready` (R94). -/
def decodeHsdMbRead (v : BitVec 1) : Except Reject Instr :=
  .ok (if v.getLsbD 0 then .mbReadFull else .mbReadEmpty)

/-- HSD of INIT_RX: `rx_en`, `rx_err`, `ok` (R94, R101). -/
def decodeHsdInitRx (v : BitVec 3) : Except Reject Instr :=
  .ok (if v.getLsbD 2 then .initRxIgnoredEnabled else if v.getLsbD 1 then .initRxIgnoredFailed
    else if v.getLsbD 0 then .initRxOk else .initRxFail)

/-- HSD of INIT_TX: `tx_en`, `tx_err`, `ok` (R94, R101). -/
def decodeHsdInitTx (v : BitVec 3) : Except Reject Instr :=
  .ok (if v.getLsbD 2 then .initTxIgnoredEnabled else if v.getLsbD 1 then .initTxIgnoredFailed
    else if v.getLsbD 0 then .initTxOk else .initTxFail)

/-- HSD of FRAME_EMIT: `same` (R94). -/
def decodeHsdEmit (v : BitVec 1) : Except Reject Instr :=
  .ok (if v.getLsbD 0 then .frameEmitDrop else .frameEmitForward)

/-! ## The decoder and the encoder -/

/-- An internal operation's row: its pattern must be the calling sub-case's (R101). -/
def decodeCall (hit : Bool) (i : Instr) : Except Reject Instr := if hit then .ok i else .error .notThePattern

/-- The row a code names, or why it names none. Total on any bits. -/
def decode (c : Code) : Except Reject Instr :=
  let low8 : BitVec 8 := c.bits.extractLsb' 0 8
  let low6 : BitVec 6 := c.bits.extractLsb' 0 6
  let low5 : BitVec 5 := c.bits.extractLsb' 0 5
  let low3 : BitVec 3 := c.bits.extractLsb' 0 3
  let low2 : BitVec 2 := c.bits.extractLsb' 0 2
  let low1 : BitVec 1 := c.bits.extractLsb' 0 1
  match c.fmt with
  | .ev => decodeEv c.bits
  | .clk => decodeClk c.bits
  | .rxd => decodeRxd low6
  | .syd => decodeSyd low5
  | .txd => decodeTxd low8
  | .hsdSend => decodeHsdSend low2 (pinSendId c.bits)
  | .hsdMbRead => decodeHsdMbRead low1
  | .hsdInitRx => decodeHsdInitRx low3
  | .hsdInitTx => decodeHsdInitTx low3
  | .hsdEmit => decodeHsdEmit low1
  | .callBcStartRx => decodeCall (low3 == 1#3) .bcStartRx
  | .callBcStartTx => decodeCall (low2 == 2#2) .bcStartTx
  | .callBcStop => decodeCall (low8 == 0x80#8) .bcStop
  | .callByteDone => decodeCall ((c.bits.extractLsb' 1 5 : BitVec 5) == 0x18#5) .byteDone
  | .callFrameEmit => decodeCall ((c.bits.extractLsb' 3 2 : BitVec 2) == 2#2 && c.bits.getLsbD 0) .frameEmit
  | .callMbWrite => decodeCall (low1 == 0#1) .mbWrite
  | .char => match unCharBits (c.bits.extractLsb' 0 10) with | some b => .ok (.char b) | none => .error .notThePattern
  | .frame => match unFrameBits c.bits with | some id => .ok (.frame id) | none => .error .notThePattern
  | .id48 => .ok (.id48 (c.bits.extractLsb' 0 48))
  | .ivl => match unFrameBits (~~~c.bits) with | some id => .ok (.ivl id) | none => .error .notThePattern

/-- A TXD vector as code bits. -/
def txdBits (y slot : BitVec 4) : BitVec 80 := fieldAt slot 0 ||| fieldAt y 4

/-- The code of an instruction, from the table's patterns; a bit a pattern does not examine is written 0. -/
def encode : Instr → Code
  | .reset => ⟨.ev, evBits 0x40#7 false false false 0#48⟩
  | .mbRead => ⟨.ev, evBits 0x20#7 false false false 0#48⟩
  | .send id => ⟨.ev, evBits 0x10#7 false false false id⟩
  | .initRx ok => ⟨.ev, evBits 0x08#7 false ok false 0#48⟩
  | .initTx ok => ⟨.ev, evBits 0x04#7 false false ok 0#48⟩
  | .rxTick level => ⟨.ev, evBits 0x02#7 level false false 0#48⟩
  | .txTick => ⟨.ev, evBits 0x01#7 false false false 0#48⟩
  | .nop => ⟨.ev, evBits 0x00#7 false false false 0#48⟩
  | .bcClk => ⟨.clk, 0#80⟩
  | .rxTickIdleHigh => ⟨.rxd, 0b000001#80⟩
  | .rxTickStart => ⟨.rxd, 0b000000#80⟩
  | .rxTickData idx v => ⟨.rxd, fieldAt (BitVec.ofBool v) 0 ||| fieldAt idx 1 ||| fieldAt 1#1 5⟩
  | .rxTickStop level => ⟨.rxd, fieldAt (BitVec.ofBool level) 0 ||| fieldAt 8#4 1 ||| fieldAt 1#1 5⟩
  | .byteDoneWp1Hit => ⟨.syd, 0b00100#80⟩
  | .byteDoneWp1Miss => ⟨.syd, 0b00000#80⟩
  | .byteDoneWp2Hit => ⟨.syd, 0b01010#80⟩
  | .byteDoneWp2Miss => ⟨.syd, 0b01000#80⟩
  | .byteDoneColStore => ⟨.syd, 0b10000#80⟩
  | .byteDoneColLast => ⟨.syd, 0b10001#80⟩
  | .txTickStart y => ⟨.txd, txdBits y 0#4⟩
  | .txTickDataD0 y => ⟨.txd, txdBits y 1#4⟩
  | .txTickDataD1 y => ⟨.txd, txdBits y 2#4⟩
  | .txTickDataD2 y => ⟨.txd, txdBits y 3#4⟩
  | .txTickDataD3 y => ⟨.txd, txdBits y 4#4⟩
  | .txTickDataD4 y => ⟨.txd, txdBits y 5#4⟩
  | .txTickDataD5 y => ⟨.txd, txdBits y 6#4⟩
  | .txTickDataD6 y => ⟨.txd, txdBits y 7#4⟩
  | .txTickDataD7 y => ⟨.txd, txdBits y 8#4⟩
  | .txTickStop y => ⟨.txd, txdBits y 9#4⟩
  | .txTickEnd => ⟨.txd, 0x80#80⟩
  | .sendAccept id => ⟨.hsdSend, fieldAt 0b10#2 0 ||| fieldAt id 16⟩
  | .sendRejectDisabled => ⟨.hsdSend, 0b00#80⟩
  | .sendRejectBusy => ⟨.hsdSend, 0b11#80⟩
  | .mbReadFull => ⟨.hsdMbRead, 1#80⟩
  | .mbReadEmpty => ⟨.hsdMbRead, 0#80⟩
  | .initRxOk => ⟨.hsdInitRx, 0b001#80⟩
  | .initRxFail => ⟨.hsdInitRx, 0b000#80⟩
  | .initRxIgnoredEnabled => ⟨.hsdInitRx, 0b100#80⟩
  | .initRxIgnoredFailed => ⟨.hsdInitRx, 0b010#80⟩
  | .initTxOk => ⟨.hsdInitTx, 0b001#80⟩
  | .initTxFail => ⟨.hsdInitTx, 0b000#80⟩
  | .initTxIgnoredEnabled => ⟨.hsdInitTx, 0b100#80⟩
  | .initTxIgnoredFailed => ⟨.hsdInitTx, 0b010#80⟩
  | .frameEmitDrop => ⟨.hsdEmit, 1#80⟩
  | .frameEmitForward => ⟨.hsdEmit, 0#80⟩
  | .bcStartRx => ⟨.callBcStartRx, 0b001#80⟩
  | .bcStartTx => ⟨.callBcStartTx, 0b10#80⟩
  | .bcStop => ⟨.callBcStop, 0x80#80⟩
  | .byteDone => ⟨.callByteDone, 0b110000#80⟩
  | .frameEmit => ⟨.callFrameEmit, 0b10001#80⟩
  | .mbWrite => ⟨.callMbWrite, 0#80⟩
  | .char b => ⟨.char, fieldAt (charBits b) 0⟩
  | .frame id => ⟨.frame, frameBits id⟩
  | .id48 id => ⟨.id48, fieldAt id 0⟩
  | .ivl id => ⟨.ivl, ~~~(frameBits id)⟩

/-! ## Words of the table

The table's rows overlap as bare bits: EV, RXD, SYD, TXD and HSD are vectors over different signals. DESIGN CHOICE (log 9): a
byte that names one row of EV is read as EV, any other byte as TXD; the wider formats are told apart by their width, and FRAME
from IVL by its first slot. -/

/-- Whether a decoding answers a row. -/
def decodes (c : Code) : Bool := match decode c with | .ok _ => true | .error _ => false

/-- The code of a table word of `nbits` bits with value `w`. -/
def tableCode (nbits w : Nat) : Code :=
  let bits := BitVec.ofNat 80 w
  match nbits with
  | 1 => ⟨.hsdMbRead, bits⟩
  | 2 => ⟨.hsdSend, bits⟩
  | 3 => ⟨.hsdInitRx, bits⟩
  | 5 => ⟨.syd, bits⟩
  | 6 => ⟨.rxd, bits⟩
  | 7 => ⟨.ev, bits⟩
  | 8 => if w < 128 && decodes ⟨.ev, bits⟩ then ⟨.ev, bits⟩ else ⟨.txd, bits⟩
  | 48 => ⟨.id48, bits⟩
  | 80 => if bits.getLsbD 79 then ⟨.ivl, bits⟩ else ⟨.frame, bits⟩
  | _ => ⟨.char, bits⟩

/-- The instruction a table word decodes to, `none` where the decoder refuses it. -/
def decodeTableWord (nbits w : Nat) : Option Instr :=
  match decode (tableCode nbits w) with
  | .ok i => some i
  | .error _ => none

end Sys2Proof
end

