-- ==== Sys2Proof/Machine/State.lean ====
section
/-! DEFINITION. The state of the block (10_state.md R20), its reset value (R50), and the ways a step can stop. -/

namespace Sys2Proof.Machine

/-- SyncState: WaitPreamble1, WaitPreamble2, CollectPayload (R29). The value 3 "is never written" and cannot be. -/
inductive SyncState where
  | wp1
  | wp2
  | col
deriving DecidableEq, Repr

/-- The complete state: the elements of R20 in its order, the carrier counter (R36), and the model's own fields. -/
structure State where
  /-- `rx_en`: receive role enabled (R23). -/
  rxEn : Bool
  /-- `tx_en`: transmit role enabled (R23). -/
  txEn : Bool
  /-- `rx_err`: the receive role's timer creation failed (R23). -/
  rxErr : Bool
  /-- `tx_err`: the transmit role's timer creation failed (R23). -/
  txErr : Bool
  /-- `rx_cnt`: counter of the receive BitClock, CNT_W bits, 0 .. BIT_DIV - 1 (R20, R24; log 6). -/
  rxCnt : Nat
  /-- `tx_cnt`: counter of the transmit BitClock, CNT_W bits, 0 .. BIT_DIV - 1 (R20, R24; log 6). -/
  txCnt : Nat
  /-- `rx_meta`: the synchroniser behind `rx_in`; bit 0 is `rx_meta[0]`, bit 1 `rx_meta[1]` (R25). -/
  rxMeta : BitVec 2
  /-- `rx_busy`: `false` = Idle, `true` = Receiving (R27). -/
  rxBusy : Bool
  /-- `rx_idx`: the next sample index, 0 .. 8 (R27). -/
  rxIdx : Fin 9
  /-- `rx_byte`: the byte being assembled (R28). -/
  rxByte : Byte
  /-- `sy_state` (R29). -/
  syState : SyncState
  /-- `pl_idx`: payload index, 0 .. 5 (R29). -/
  plIdx : Fin 6
  /-- `pl[0..5]`: the payload buffer (R30). -/
  pl : Vector Byte 6
  /-- `mb_ready` (R31). -/
  mbReady : Bool
  /-- `mb_slot` (R31). -/
  mbSlot : Ident
  /-- `tx_busy`: the busy-guard (R32). -/
  txBusy : Bool
  /-- `tx_byte`: index of the frame byte whose slot is next, 8 = all slots driven (R33). -/
  txByte : Fin 9
  /-- `tx_bit`: index of the next slot of the character, 0 .. 9 (R33). -/
  txBit : Fin 10
  /-- `tx_frame[0..7]` (R34). -/
  txFrame : Vector Byte 8
  /-- `tx_env`: `true` = mark (R35). -/
  txEnv : Bool
  /-- The carrier generator's counter (R36). -/
  carCnt : Nat
  /-- The parameters of the device (R52); no operation writes them. The model's own field (log 3). -/
  cfg : Config
  /-- The level HOST holds on the port `send_id` (R21). The model's own field (log 13). -/
  sendIdPort : Ident
  /-- The response SEND gave in the last step, `none` if it held no SEND (R22, R131). The model's own field (log 7). -/
  sendResp : Option Bool
  /-- The response MB_READ gave in the last step: `some none` is the spec's `none` (R202). The model's own field (log 7). -/
  readResp : Option (Option Ident)
  /-- What the agents do next, oldest first (R17, R99). The model's own field (log 1). -/
  trace : List Code
deriving DecidableEq, Repr

/-- The block has no fault: "No operation raises an exception" (R226). No constructor, so no one can raise one. Safe. -/
inductive Fault where
deriving DecidableEq, Repr

/-- The ways a step refuses. -/
inductive Refusal where
  /-- Raised by exec for a row without a meaning. There is none. Safe. -/
  | notModelled (mnemonic : String)
  /-- Raised by step: the next entry of the trace names no row (R97, R101). Safe. -/
  | undecodable (why : Reject)
  /-- Raised by step: the next entry asks for an operation no agent causes, which is performed only inside the operation that
  calls it (R15, R17, R19; log 10). Safe. -/
  | internalOperation
  /-- Raised by step: the state holds a value of U7 that the types admit, which "a model must refuse", or a counter outside
  0 .. BIT_DIV - 1 (R40; log 20). Safe. -/
  | unreachableState
deriving DecidableEq, Repr

/-- The state after RESET (R50). The elements to which R50 gives `U` hold 0, DESIGN CHOICE (log 2); the model's own fields
hold what log 1, log 3, log 7 and log 13 say. -/
def State.reset : State where
  rxEn := false
  txEn := false
  rxErr := false
  txErr := false
  rxCnt := 0
  txCnt := 0
  rxMeta := 0#2
  rxBusy := false
  rxIdx := 0
  rxByte := 0#8
  syState := .wp1
  plIdx := 0
  pl := Vector.replicate 6 0#8
  mbReady := false
  mbSlot := 0#48
  txBusy := false
  txByte := 0
  txBit := 0
  txFrame := Vector.replicate 8 0#8
  txEnv := false
  carCnt := 0
  cfg := Config.chip
  sendIdPort := 0#48
  sendResp := none
  readResp := none
  trace := []

end Sys2Proof.Machine
end

