-- ==== Sys2Proof/Machine/Flags.lean ====
section
/-! DEFINITION. The flags (10_state.md R23), the run conditions of the two BitClocks (R24), and the output pins (R22).
The flags "are the only condition codes the block has" (R23): each is a field of State, and no operation computes another. -/

namespace Sys2Proof.Machine

/-- The run condition of the RX BitClock: `rx_en` (R24, R111). -/
def rxRuns (s : State) : Bool := s.rxEn

/-- The run condition of the TX BitClock: `tx_busy` (R24, R111). -/
def txRuns (s : State) : Bool := s.txBusy

/-- The RX instance emits a tick at this edge: it runs and its counter stands at BIT_DIV - 1 (R114). -/
def rxTickDue (s : State) : Bool := rxRuns s && s.rxCnt == s.cfg.bitDivPred

/-- The TX instance emits a tick at this edge (R114). -/
def txTickDue (s : State) : Bool := txRuns s && s.txCnt == s.cfg.bitDivPred

/-- The tests `b == PREAMBLE1`, `b == PREAMBLE2` on the completed byte, and `pl_idx == 5` (R92). -/
def eq1 (b : Byte) : Bool := b == Config.preamble1
def eq2 (b : Byte) : Bool := b == Config.preamble2
def lastIdx (s : State) : Bool := s.plIdx.val == 5

/-- `same`: the Self-Filter's comparison, all six byte pairs equal (R191, R106). -/
def sameIdent (a b : Ident) : Bool :=
  identByte a 0 == identByte b 0 && identByte a 1 == identByte b 1 && identByte a 2 == identByte b 2 &&
    identByte a 3 == identByte b 3 && identByte a 4 == identByte b 4 && identByte a 5 == identByte b 5

/-! ## Output pins (R22) -/

/-- `send_ok`: combinational, `send_req & tx_en & !tx_busy`; in a cycle with `rst = 1` any value (U11, log 16). -/
def sendOkPin (rst sendReq : Bool) (s : State) : Bool :=
  if rst then Config.sendOkInReset else sendReq && s.txEn && !s.txBusy

/-- The pins that show a state element. -/
def txBusyPin (s : State) : Bool := s.txBusy
def txEnvPin (s : State) : Bool := s.txEnv
def mbReadyPin (s : State) : Bool := s.mbReady
def rxEnPin (s : State) : Bool := s.rxEn
def txEnPin (s : State) : Bool := s.txEn
def rxErrPin (s : State) : Bool := s.rxErr
def txErrPin (s : State) : Bool := s.txErr

/-- `mb_data`: the slot, "meaningful only while `mb_ready = 1`" (R22); any value otherwise (U2, log 16). -/
def mbDataPin (s : State) : Ident := if s.mbReady then s.mbSlot else Config.idleMbData s.mbSlot

/-- `car`: a square wave of CAR_DIV cycles and about 50 % duty, its phase free (R36, log 14). -/
def carrier (s : State) : Bool := decide ((s.carCnt + Config.carrierPhase) % s.cfg.carDiv < (s.cfg.carDiv + 1) / 2)

/-- `ir_out = tx_env & car` (R36). -/
def irOutPin (s : State) : Bool := s.txEnv && carrier s

end Sys2Proof.Machine
end

