-- ==== Sys2Proof/Machine/Ops.lean ====
section
/-! DEFINITION. The operations of the spec as functions on State, from their pseudocode; the meanings of the instructions and the
wire formats are built on them. Each is total (60_exceptions.md R226).

There is no exception to take and none to return from: "No operation raises an exception" (R226), "There is no trap entry"
(R231), "There is no return-from-trap operation" (R232). There is no memory to read or write (20_memory.md R60). -/

namespace Sys2Proof.Machine

/-! ## BitClock (40_bitclock.md) -/

/-- BC_START(RX): `rx_cnt <- 0` (R112). -/
def bcStartRx (s : State) : State := { s with rxCnt := 0 }

/-- BC_START(TX): `tx_cnt <- 0` (R112). -/
def bcStartTx (s : State) : State := { s with txCnt := 0 }

/-- BC_STOP: the caller clears the run condition, the counter "keeps its value" (R113). -/
def bcStop (s : State) : State := s

/-- A counter of CNT_W bits, one up (R24, R123: "Width `CNT_W`"; R105). -/
def countUp (c : Config) (cnt : Nat) : Nat := (cnt + 1) % 2 ^ c.cntW

/-- One counter's BC_CLK: back to 0 at BIT_DIV - 1, else one up, and held while the instance does not run (R114). -/
def nextCount (c : Config) (run : Bool) (cnt : Nat) : Nat :=
  if run then (if cnt = c.bitDivPred then 0 else countUp c cnt) else cnt

/-- The counters of both instances at one `clk` edge (R114). -/
def bcCount (s : State) : State :=
  { s with rxCnt := nextCount s.cfg (rxRuns s) s.rxCnt, txCnt := nextCount s.cfg (txRuns s) s.txCnt }

/-- INIT_RX(ok) (R116). -/
def initRx (ok : Bool) (s : State) : State :=
  if s.rxEn || s.rxErr then s
  else if ok then bcStartRx { s with rxEn := true }
  else { s with rxErr := true }

/-- INIT_TX(ok) (R117). -/
def initTx (ok : Bool) (s : State) : State :=
  if s.txEn || s.txErr then s
  else if ok then { s with txEn := true }
  else { s with txErr := true }

/-! ## Reset (70_reset_and_hazards.md) -/

/-- RESET (R250): every flag and every sequencing element; "`rx_byte`, `pl[0..5]`, `mb_slot`, `tx_frame[0..7]`, `rx_meta`, the
carrier counter: not written". -/
def resetAll (s : State) : State :=
  { s with
    rxEn := false, txEn := false, rxErr := false, txErr := false, rxCnt := 0, txCnt := 0, rxBusy := false, rxIdx := 0,
    syState := .wp1, plIdx := 0, mbReady := false, txBusy := false, txByte := 0, txBit := 0, txEnv := false }

/-! ## Mailbox (45_mailbox.md) -/

/-- MB_WRITE(id): slot and flag in one step (R201). -/
def putMailbox (id : Ident) (s : State) : State := { s with mbSlot := id, mbReady := true }

/-- The response of MB_READ (R202), recorded (log 7). -/
def respondRead (r : Option Ident) (s : State) : State := { s with readResp := some r }

/-- MB_READ (R202). -/
def readMailbox (s : State) : State :=
  if s.mbReady then respondRead (some s.mbSlot) { s with mbReady := false } else respondRead none s

/-! ## Self-Filter (44_self_filter.md) -/

/-- FRAME_EMIT(id): dropped if it is LOCAL_ID in all six bytes, else written to the mailbox (R191). -/
def emitFrame (id : Ident) (s : State) : State :=
  if sameIdent id s.cfg.localId then s else putMailbox id s

/-! ## Frame Synchronizer (43_frame_sync.md) -/

/-- The identity a completed payload is: byte `i` is `pl[i]` for `i < 5`, byte 5 is `b` (R172). -/
def payloadIdent (pl : Vector Byte 6) (b : Byte) : Ident := packIdent pl[0] pl[1] pl[2] pl[3] pl[4] b

/-- `pl[pl_idx] <- b` (R172). -/
def storePayload (b : Byte) (s : State) : State := { s with pl := s.pl.set s.plIdx.val b s.plIdx.isLt }

/-- BYTE_DONE(b) (R172). -/
def byteDoneOp (b : Byte) (s : State) : State :=
  match s.syState with
  | .wp1 => if eq1 b then { s with syState := .wp2 } else { s with syState := .wp1 }
  | .wp2 => if eq2 b then { s with syState := .col, plIdx := 0 } else { s with syState := .wp1 }
  | .col =>
    if h : s.plIdx.val < 5 then { storePayload b s with plIdx := ⟨s.plIdx.val + 1, Nat.succ_lt_succ h⟩ }
    else emitFrame (payloadIdent s.pl b) { storePayload b s with syState := .wp1 }

/-! ## Bit Sampler and Byte Assembler (42_rx_sampler.md) -/

/-- RX_TICK.start: the byte begins, cleared (R152, R107). -/
def startChar (s : State) : State := { s with rxBusy := true, rxIdx := 0, rxByte := 0#8 }

/-- RX_TICK.data: the level is ORed in at bit position `rx_idx`, and the index advances (R152). -/
def sampleData (level : Bool) (s : State) (h : s.rxIdx.val < 8) : State :=
  { s with rxByte := s.rxByte ||| bitAt level s.rxIdx.val, rxIdx := ⟨s.rxIdx.val + 1, Nat.succ_lt_succ h⟩ }

/-- RX_TICK.stop: back to Idle, and the byte goes to the Synchronizer in the same step (R152). -/
def stopChar (s : State) : State := byteDoneOp s.rxByte { s with rxBusy := false }

/-- RX_TICK(level) (R152). It "occurs only while `rx_en = 1`"; otherwise nothing is performed (R255, log 5). -/
def rxTickOp (level : Bool) (s : State) : State :=
  if rxRuns s then
    if s.rxBusy then
      if h : s.rxIdx.val < 8 then sampleData level s h else stopChar s
    else if level then s else startChar s
  else s

/-! ## Encoder/Sequencer (41_tx_encoder.md) -/

/-- The response of SEND (R131), recorded (log 7). -/
def respondSend (r : Bool) (s : State) : State := { s with sendResp := some r }

/-- SEND.accept: the frame is latched and the TX BitClock starts; `tx_env` is not written (R131). -/
def acceptSend (id : Ident) (s : State) : State :=
  respondSend true (bcStartTx { s with txFrame := frameBytes id, txByte := 0, txBit := 0, txBusy := true })

/-- SEND(id) (R131). -/
def sendOp (id : Ident) (s : State) : State :=
  if s.txEn then (if s.txBusy then respondSend false s else acceptSend id s) else respondSend false s

/-- TX_TICK.end (R133). -/
def endTx (s : State) : State := bcStop { s with txEnv := false, txBusy := false }

/-- A TX_TICK that drives a slot: the envelope is the complement of the logic bit, then the position advances (R133). -/
def driveSlot (bit : Bool) (s : State) (h : s.txByte.val < 8) : State :=
  if hb : s.txBit.val < 9 then { s with txEnv := envOf bit, txBit := ⟨s.txBit.val + 1, Nat.succ_lt_succ hb⟩ }
  else { s with txEnv := envOf bit, txBit := 0, txByte := ⟨s.txByte.val + 1, Nat.succ_lt_succ h⟩ }

/-- The logic bit of the slot at the transmit position (R133, R85). -/
def slotHere (s : State) (h : s.txByte.val < 8) : Bool := slotBit s.txFrame[s.txByte.val] s.txBit.val

/-- TX_TICK (R133). It "occurs only while `tx_busy = 1`"; otherwise nothing is performed (R119, log 5). -/
def txTickOp (s : State) : State :=
  if txRuns s then
    if h : s.txByte.val < 8 then driveSlot (slotHere s h) s h else endTx s
  else s

/-! ## The edge's own registers -/

/-- What every `clk` edge does beside its operations: the synchroniser shifts in the level on `rx_in`, the carrier counter
counts modulo CAR_DIV (R25, R36; at an edge with `rst` too, log 14 and log 15). -/
def shiftFree (rxIn : Bool) (s : State) : State :=
  { s with
    rxMeta := s.rxMeta.extractLsb' 0 1 ++ BitVec.ofBool rxIn,
    carCnt := if s.carCnt < s.cfg.carDivPred then s.carCnt + 1 else 0 }

/-- The level an RX_TICK samples at an edge: `rx_meta[1]` (R25). -/
def sampledLevel (s : State) : Bool := s.rxMeta.getLsbD 1

end Sys2Proof.Machine
end

