-- ==== Sys2Proof/Machine/Operands.lean ====
section
/-! DEFINITION. Where operands come from: the select vectors of a state (30_encoding.md R91 to R94), the operands the internal
operations take, the operations an EV vector selects (R90) and the trace they are read from (R99). -/

namespace Sys2Proof.Machine

/-! ## Select vectors, most significant signal first -/

/-- RXD of a state and a level (R91). -/
def rxdVector (s : State) (level : Bool) : BitVec 6 :=
  BitVec.ofBool s.rxBusy ++ (BitVec.ofNat 4 s.rxIdx.val ++ BitVec.ofBool level)

/-- The two-bit code of `sy_state` (R29). -/
def syCode : SyncState → BitVec 2
  | .wp1 => 0#2
  | .wp2 => 1#2
  | .col => 2#2

/-- SYD of a state and a completed byte (R92). -/
def sydVector (s : State) (b : Byte) : BitVec 5 :=
  syCode s.syState ++ (BitVec.ofBool (eq1 b) ++ (BitVec.ofBool (eq2 b) ++ BitVec.ofBool (lastIdx s)))

/-- TXD of a state (R93). -/
def txdVector (s : State) : BitVec 8 := BitVec.ofNat 4 s.txByte.val ++ BitVec.ofNat 4 s.txBit.val

/-- HSD of SEND (R94). -/
def hsdSendVector (s : State) : BitVec 2 := BitVec.ofBool s.txEn ++ BitVec.ofBool s.txBusy

/-- HSD of MB_READ (R94). -/
def hsdMbReadVector (s : State) : BitVec 1 := BitVec.ofBool s.mbReady

/-- HSD of INIT_RX (R94). -/
def hsdInitRxVector (s : State) (ok : Bool) : BitVec 3 :=
  BitVec.ofBool s.rxEn ++ (BitVec.ofBool s.rxErr ++ BitVec.ofBool ok)

/-- HSD of INIT_TX (R94). -/
def hsdInitTxVector (s : State) (ok : Bool) : BitVec 3 :=
  BitVec.ofBool s.txEn ++ (BitVec.ofBool s.txErr ++ BitVec.ofBool ok)

/-- HSD of FRAME_EMIT for an identity (R94). -/
def hsdEmitVector (s : State) (id : Ident) : BitVec 1 := BitVec.ofBool (sameIdent id s.cfg.localId)

/-- A row's effect, performed only if the row is selected; a row that is not selected performs nothing: "no operation, the state
holds" (R97; log 5). -/
def onlyIf (selected : Bool) (effect s : State) : State := if selected then effect else s

/-! ## Operands of the internal operations -/

/-- BYTE_DONE's operand: `rx_byte` (R172). -/
def doneByte (s : State) : Byte := s.rxByte

/-- FRAME_EMIT's and MB_WRITE's operand: `pl[0..4]` and the completed byte (R172, R191). -/
def doneIdent (s : State) : Ident := payloadIdent s.pl (doneByte s)

/-! ## The operations an EV vector selects -/

/-- An operation, if its EV bit is 1. -/
def pick (bit : Bool) (i : Instr) : List Instr := if bit then [i] else []

/-- The host's operations of an EV vector in R229's order: MB_READ, SEND, INIT_RX, INIT_TX. -/
def hostOps (bits : BitVec 80) (id : Ident) : List Instr :=
  pick (evMbRd bits) .mbRead ++ pick (evSendReq bits) (.send id) ++ pick (evInitRx bits) (.initRx (pinInitRxOk bits)) ++
    pick (evInitTx bits) (.initTx (pinInitTxOk bits))

/-- The operations of a timeless step (R90, R119): RESET alone, else those whose bits are 1, in R229's order, a tick only if its
clock ran before the step (R229, log 23); NOP where that leaves none (R97). -/
def evOps (bits : BitVec 80) (s : State) : List Instr :=
  if evRst bits then [.reset]
  else
    match hostOps bits (pinSendId bits) ++ pick (evRxTick bits && rxRuns s) (.rxTick (pinRxIn bits)) ++
      pick (evTxTick bits && txRuns s) .txTick with
    | [] => [.nop]
    | i :: is => i :: is

/-- The operations of a `clk` edge without RESET (R229): the host's, then the ticks the two BitClocks emit from the state before
the edge; SEND takes the level on `send_id`, RX_TICK samples `rx_meta[1]` (R21, R25). -/
def edgeOps (bits : BitVec 80) (s : State) : List Instr :=
  hostOps bits s.sendIdPort ++ pick (rxTickDue s) (.rxTick (sampledLevel s)) ++ pick (txTickDue s) .txTick

/-! ## The trace -/

/-- The state in which the oldest entry of the trace is performed: it is taken off, and no response stands yet. -/
def fetched (rest : List Code) (s : State) : State := { s with trace := rest, sendResp := none, readResp := none }

/-- A state with an entry put in front of its trace. -/
def placeCode (c : Code) (s : State) : State := { s with trace := c :: s.trace }

/-- Whether both counters stand in their range 0 .. BIT_DIV - 1 (R20). -/
def countsFit (s : State) : Bool := !decide (s.cfg.bitDivPred < s.rxCnt) && !decide (s.cfg.bitDivPred < s.txCnt)

/-- Whether the state holds none of the values that the types admit and no operation produces: of U7 `tx_byte = 8` with
`tx_bit != 0`, and `tx_env = 1` with `tx_busy = 0`; and a counter outside its range (R20, R40). -/
def launchable (s : State) : Bool :=
  (s.txByte.val != 8 || s.txBit.val == 0) && (s.txBusy || !s.txEnv) && countsFit s

end Sys2Proof.Machine
end

