-- ==== Sys2Proof/Machine/BitClock.lean ====
section
/-! DEFINITION. The meanings of the BitClock and initialisation operations (40_bitclock.md). A sub-case that its vector does not select
performs nothing (log 5). -/

namespace Sys2Proof.Machine

/-- NOP: "no operation, the state holds" (R97). At a `clk` edge the counters still advance: Machine/Edge.lean. -/
def execNop (s : State) : Host.Outcome State Fault Refusal := .next s

/-- BC_CLK of both instances, each reading the state before the edge, and the RX_TICK and TX_TICK they emit, "performed at this
same edge" (R114, R229), RX_TICK with the level in `rx_meta[1]` (R25; log 26). -/
def execBcClk (s : State) : Host.Outcome State Fault Refusal :=
  let counted := bcCount s
  let received := if rxTickDue s then rxTickOp (sampledLevel s) counted else counted
  .next (if txTickDue s then txTickOp received else received)

/-- INIT_RX(ok) (R116). -/
def execInitRx (ok : Bool) (s : State) : Host.Outcome State Fault Refusal := .next (initRx ok s)

/-- INIT_TX(ok) (R117). -/
def execInitTx (ok : Bool) (s : State) : Host.Outcome State Fault Refusal := .next (initTx ok s)

/-- INIT_RX.ok, selected by HSD 001 (R116, R94). -/
def execInitRxOk (s : State) : Host.Outcome State Fault Refusal := .next (onlyIf (!s.rxEn && !s.rxErr) (initRx true s) s)

/-- INIT_RX.fail, selected by HSD 000 (R116, R94). -/
def execInitRxFail (s : State) : Host.Outcome State Fault Refusal := .next (onlyIf (!s.rxEn && !s.rxErr) (initRx false s) s)

/-- INIT_RX.ignored.enabled, selected by HSD 1xx: "nothing changes" (R116, R94). -/
def execInitRxIgnoredEnabled (s : State) : Host.Outcome State Fault Refusal := .next s

/-- INIT_RX.ignored.failed, selected by HSD 01x: "nothing changes" (R116, R94). -/
def execInitRxIgnoredFailed (s : State) : Host.Outcome State Fault Refusal := .next s

/-- INIT_TX.ok, selected by HSD 001 (R117, R94). -/
def execInitTxOk (s : State) : Host.Outcome State Fault Refusal := .next (onlyIf (!s.txEn && !s.txErr) (initTx true s) s)

/-- INIT_TX.fail, selected by HSD 000 (R117, R94). -/
def execInitTxFail (s : State) : Host.Outcome State Fault Refusal := .next (onlyIf (!s.txEn && !s.txErr) (initTx false s) s)

/-- INIT_TX.ignored.enabled, selected by HSD 1xx: "nothing changes" (R117, R94). -/
def execInitTxIgnoredEnabled (s : State) : Host.Outcome State Fault Refusal := .next s

/-- INIT_TX.ignored.failed, selected by HSD 01x: "nothing changes" (R117, R94). -/
def execInitTxIgnoredFailed (s : State) : Host.Outcome State Fault Refusal := .next s

/-- BC_START(RX), with the pattern of INIT_RX.ok (R112, R101). -/
def execBcStartRx (s : State) : Host.Outcome State Fault Refusal := .next (onlyIf (!s.rxEn && !s.rxErr) (bcStartRx s) s)

/-- BC_START(TX), with the pattern of SEND.accept (R112, R101). -/
def execBcStartTx (s : State) : Host.Outcome State Fault Refusal := .next (onlyIf (s.txEn && !s.txBusy) (bcStartTx s) s)

/-- BC_STOP: writes nothing by itself, "the run condition is cleared by the caller" (R113). -/
def execBcStop (s : State) : Host.Outcome State Fault Refusal := .next (bcStop s)

end Sys2Proof.Machine
end

