-- ==== Sys2Proof/Machine/FrameSync.lean ====
section
/-! DEFINITION. The meanings of BYTE_DONE and its sub-cases (43_frame_sync.md), with the byte in `rx_byte` as operand (log 10). A row that its
vector does not select performs nothing (log 5). -/

namespace Sys2Proof.Machine

/-- BYTE_DONE(rx_byte), with the pattern of RX_TICK.stop (R172, R101; log 10). -/
def execByteDone (s : State) : Host.Outcome State Fault Refusal :=
  .next (onlyIf (s.rxBusy && s.rxIdx.val == 8) (byteDoneOp (doneByte s) s) s)

/-- BYTE_DONE.wp1_hit, selected by SYD 001xx: WP1 and the byte is PREAMBLE1 (R172, R92). -/
def execByteDoneWp1Hit (s : State) : Host.Outcome State Fault Refusal :=
  .next (onlyIf (s.syState == .wp1 && eq1 (doneByte s)) (byteDoneOp (doneByte s) s) s)

/-- BYTE_DONE.wp1_miss, selected by SYD 000xx: WP1 and any other byte (R172, R92). -/
def execByteDoneWp1Miss (s : State) : Host.Outcome State Fault Refusal :=
  .next (onlyIf (s.syState == .wp1 && !eq1 (doneByte s)) (byteDoneOp (doneByte s) s) s)

/-- BYTE_DONE.wp2_hit, selected by SYD 01x1x: WP2 and the byte is PREAMBLE2 (R172, R92). -/
def execByteDoneWp2Hit (s : State) : Host.Outcome State Fault Refusal :=
  .next (onlyIf (s.syState == .wp2 && eq2 (doneByte s)) (byteDoneOp (doneByte s) s) s)

/-- BYTE_DONE.wp2_miss, selected by SYD 01x0x: WP2 and any other byte (R172, R92). -/
def execByteDoneWp2Miss (s : State) : Host.Outcome State Fault Refusal :=
  .next (onlyIf (s.syState == .wp2 && !eq2 (doneByte s)) (byteDoneOp (doneByte s) s) s)

/-- BYTE_DONE.col_store, selected by SYD 10xx0: COL, index 0 to 4 (R172, R92). -/
def execByteDoneColStore (s : State) : Host.Outcome State Fault Refusal :=
  .next (onlyIf (s.syState == .col && !lastIdx s) (byteDoneOp (doneByte s) s) s)

/-- BYTE_DONE.col_last, selected by SYD 10xx1: COL, index 5 (R172, R92). -/
def execByteDoneColLast (s : State) : Host.Outcome State Fault Refusal :=
  .next (onlyIf (s.syState == .col && lastIdx s) (byteDoneOp (doneByte s) s) s)

end Sys2Proof.Machine
end

