-- ==== Sys2Proof/Machine/Mailbox.lean ====
section
/-! DEFINITION. The meanings of MB_READ, its sub-cases and MB_WRITE (45_mailbox.md). A row that its vector does not select performs nothing (log 5). -/

namespace Sys2Proof.Machine

/-- MB_READ (R202). -/
def execMbRead (s : State) : Host.Outcome State Fault Refusal := .next (readMailbox s)

/-- MB_READ.full, selected by HSD 1 (R202, R94). -/
def execMbReadFull (s : State) : Host.Outcome State Fault Refusal := .next (onlyIf s.mbReady (readMailbox s) s)

/-- MB_READ.empty, selected by HSD 0 (R202, R94). -/
def execMbReadEmpty (s : State) : Host.Outcome State Fault Refusal := .next (onlyIf (!s.mbReady) (readMailbox s) s)

/-- MB_WRITE, with the pattern of FRAME_EMIT.forward (R201, R101; log 10). -/
def execMbWrite (s : State) : Host.Outcome State Fault Refusal :=
  .next (onlyIf (!sameIdent (doneIdent s) s.cfg.localId) (putMailbox (doneIdent s) s) s)

end Sys2Proof.Machine
end

