-- ==== Sys2Proof/Machine/Receive.lean ====
section
/-! DEFINITION. The meanings of RX_TICK and its sub-cases (42_rx_sampler.md). A sub-case that its vector does not select performs nothing (log 5). -/

namespace Sys2Proof.Machine

/-- RX_TICK(level) (R152). -/
def execRxTick (level : Bool) (s : State) : Host.Outcome State Fault Refusal := .next (rxTickOp level s)

/-- RX_TICK.idle_high, selected by RXD 0iiii1: nothing (R152, R91). -/
def execRxTickIdleHigh (s : State) : Host.Outcome State Fault Refusal := .next s

/-- RX_TICK.start, selected by RXD 0iiii0 (R152, R91). -/
def execRxTickStart (s : State) : Host.Outcome State Fault Refusal := .next (onlyIf (rxRuns s && !s.rxBusy) (startChar s) s)

/-- RX_TICK.data, selected by RXD 10kkkv with `rx_idx` = `idx` (R152, R91). -/
def execRxTickData (idx : BitVec 4) (v : Bool) (s : State) : Host.Outcome State Fault Refusal :=
  if h : s.rxIdx.val < 8 then
    .next (onlyIf (rxRuns s && s.rxBusy && s.rxIdx.val == idx.toNat) (sampleData v s h) s)
  else .next s

/-- RX_TICK.stop, selected by RXD 11000i; the sampled level "is not examined" (R152, R154, R91). -/
def execRxTickStop (_level : Bool) (s : State) : Host.Outcome State Fault Refusal :=
  .next (onlyIf (rxRuns s && s.rxBusy && s.rxIdx.val == 8) (stopChar s) s)

end Sys2Proof.Machine
end

