-- ==== Sys2Proof/Machine/SelfFilter.lean ====
section
/-! DEFINITION. The meanings of FRAME_EMIT and its sub-cases (44_self_filter.md), with the collected identity as operand (log 10). -/

namespace Sys2Proof.Machine

/-- FRAME_EMIT, with the pattern of BYTE_DONE.col_last (R191, R101; log 10). -/
def execFrameEmit (s : State) : Host.Outcome State Fault Refusal :=
  .next (onlyIf (s.syState == .col && lastIdx s) (emitFrame (doneIdent s) s) s)

/-- FRAME_EMIT.drop, selected by `same` = 1: nothing, "the mailbox is not touched" (R191, R94). -/
def execFrameEmitDrop (s : State) : Host.Outcome State Fault Refusal := .next s

/-- FRAME_EMIT.forward, selected by `same` = 0: MB_WRITE (R191, R94). -/
def execFrameEmitForward (s : State) : Host.Outcome State Fault Refusal :=
  .next (onlyIf (!sameIdent (doneIdent s) s.cfg.localId) (putMailbox (doneIdent s) s) s)

end Sys2Proof.Machine
end

