-- ==== Sys2Proof/Machine/Transmit.lean ====
section
/-! DEFINITION. The meanings of SEND and TX_TICK and of their sub-cases (41_tx_encoder.md). A sub-case that its vector does not select performs
nothing (log 5). -/

namespace Sys2Proof.Machine

/-- SEND(id) (R131). -/
def execSend (id : Ident) (s : State) : Host.Outcome State Fault Refusal := .next (sendOp id s)

/-- SEND.accept, selected by HSD 10 (R131, R94). -/
def execSendAccept (id : Ident) (s : State) : Host.Outcome State Fault Refusal :=
  .next (onlyIf (s.txEn && !s.txBusy) (acceptSend id s) s)

/-- SEND.reject_disabled, selected by HSD 0x: the response is false (R131, R94). -/
def execSendRejectDisabled (s : State) : Host.Outcome State Fault Refusal := .next (onlyIf (!s.txEn) (respondSend false s) s)

/-- SEND.reject_busy, selected by HSD 11: the response is false (R131, R94). -/
def execSendRejectBusy (s : State) : Host.Outcome State Fault Refusal :=
  .next (onlyIf (s.txEn && s.txBusy) (respondSend false s) s)

/-- TX_TICK (R133). -/
def execTxTick (s : State) : Host.Outcome State Fault Refusal := .next (txTickOp s)

/-- A slot-driving sub-case of TX_TICK: performed while the transmission runs and stands at byte `y`, slot `slot` (R93, R133). -/
def slotSubcase (y : BitVec 4) (slot : Nat) (bit : State → Bool) (s : State) : State :=
  if h : s.txByte.val < 8 then
    onlyIf (txRuns s && s.txByte.val == y.toNat && s.txBit.val == slot) (driveSlot (bit s) s h) s
  else s

/-- Bit `n` of `tx_frame[y]`. -/
def frameBit (y : BitVec 4) (n : Nat) (s : State) : Bool := (s.txFrame.toList.getD y.toNat 0#8).getLsbD n

/-- TX_TICK.start: the start bit, a mark (R133, R93). -/
def execTxTickStart (y : BitVec 4) (s : State) : Host.Outcome State Fault Refusal := .next (slotSubcase y 0 (fun _ => false) s)

/-- TX_TICK.data.d0: data bit 0 of `tx_frame[y]` (R133, R93, R101). -/
def execTxTickDataD0 (y : BitVec 4) (s : State) : Host.Outcome State Fault Refusal := .next (slotSubcase y 1 (frameBit y 0) s)

/-- TX_TICK.data.d1: data bit 1 of `tx_frame[y]` (R133, R93, R101). -/
def execTxTickDataD1 (y : BitVec 4) (s : State) : Host.Outcome State Fault Refusal := .next (slotSubcase y 2 (frameBit y 1) s)

/-- TX_TICK.data.d2: data bit 2 of `tx_frame[y]` (R133, R93, R101). -/
def execTxTickDataD2 (y : BitVec 4) (s : State) : Host.Outcome State Fault Refusal := .next (slotSubcase y 3 (frameBit y 2) s)

/-- TX_TICK.data.d3: data bit 3 of `tx_frame[y]` (R133, R93, R101). -/
def execTxTickDataD3 (y : BitVec 4) (s : State) : Host.Outcome State Fault Refusal := .next (slotSubcase y 4 (frameBit y 3) s)

/-- TX_TICK.data.d4: data bit 4 of `tx_frame[y]` (R133, R93, R101). -/
def execTxTickDataD4 (y : BitVec 4) (s : State) : Host.Outcome State Fault Refusal := .next (slotSubcase y 5 (frameBit y 4) s)

/-- TX_TICK.data.d5: data bit 5 of `tx_frame[y]` (R133, R93, R101). -/
def execTxTickDataD5 (y : BitVec 4) (s : State) : Host.Outcome State Fault Refusal := .next (slotSubcase y 6 (frameBit y 5) s)

/-- TX_TICK.data.d6: data bit 6 of `tx_frame[y]` (R133, R93, R101). -/
def execTxTickDataD6 (y : BitVec 4) (s : State) : Host.Outcome State Fault Refusal := .next (slotSubcase y 7 (frameBit y 6) s)

/-- TX_TICK.data.d7: data bit 7 of `tx_frame[y]` (R133, R93, R101). -/
def execTxTickDataD7 (y : BitVec 4) (s : State) : Host.Outcome State Fault Refusal := .next (slotSubcase y 8 (frameBit y 7) s)

/-- TX_TICK.stop: the stop bit, a space (R133, R93). -/
def execTxTickStop (y : BitVec 4) (s : State) : Host.Outcome State Fault Refusal := .next (slotSubcase y 9 (fun _ => true) s)

/-- TX_TICK.end, selected by TXD 10000000 (R133, R93). -/
def execTxTickEnd (s : State) : Host.Outcome State Fault Refusal :=
  .next (onlyIf (txRuns s && s.txByte.val == 8 && s.txBit.val == 0) (endTx s) s)

end Sys2Proof.Machine
end

