-- ==== Sys2Proof/Machine/Wire.lean ====
section
/-! DEFINITION. The macro operations (30_encoding.md R100) and the meanings of the wire formats CHAR, FRAME, ID48 and IVL. -/

namespace Sys2Proof.Machine

/-! ## The macro operations of R100: sequences of operations, "no semantics of its own" -/

/-- RX_LEVELS: one RX_TICK for each level (R100). -/
def rxLevels (levels : List Bool) (s : State) : State := levels.foldl (fun t l => rxTickOp l t) s

/-- RX_CHAR: the ten logic bits of a byte (R100). -/
def rxChar (b : Byte) (s : State) : State := rxLevels (charSlots b) s

/-- RX_IDLE: `n` high samples (R100). -/
def rxIdle (n : Nat) (s : State) : State := rxLevels (List.replicate n true) s

/-- RX_FRAME: the preamble's characters, then the identity's (R100). -/
def rxFrame (id : Ident) (s : State) : State := (frameBytes id).toList.foldl (fun t b => rxChar b t) s

/-- `n` TX_TICKs. -/
def txTicks : Nat → State → State
  | 0, s => s
  | n + 1, s => txTicks n (txTickOp s)

/-- TX_RUN: TX_TICK until `tx_busy = 0`, "exactly 81 ticks after an accepted SEND" (R100); a tick past the end does nothing. -/
def txRun (s : State) : State := txTicks 81 s

/-- `n` rounds of LOOP_RUN: a TX_TICK, then an RX_TICK of the complement of the envelope (R100). -/
def loopRounds : Nat → State → State
  | 0, s => s
  | n + 1, s => if s.txBusy then loopRounds n (let t := txTickOp s; rxTickOp (!t.txEnv) t) else s

/-- LOOP_RUN: the device hears its own transmission; a transmission is 81 TX ticks (R100, R134). -/
def loopRun (s : State) : State := loopRounds 81 s

/-- The transmit position after `n` slots: byte `n div 10`, slot `n mod 10` (R82, R33). -/
def slotPosition (n : Nat) (s : State) : State :=
  { s with txByte := Fin.ofNat 9 (n / 10), txBit := Fin.ofNat 10 (n % 10) }

/-- The replay of an interval list by the pulse generator: each level for one bit period, then the end of the transmission
(R139 strategy (b), R88). -/
def replayIntervals (ivl : List (Nat × Nat)) (s : State) : State :=
  let driven := (replayLevels ivl).foldl (fun t e => { t with txEnv := e }) s
  endTx (slotPosition (replayLevels ivl).length driven)

/-! ## The meanings of the wire formats (log 11, log 12, log 13) -/

/-- CHAR: the character arrives, one sample in each slot: RX_CHAR (R81, R100). -/
def execChar (b : Byte) (s : State) : Host.Outcome State Fault Refusal := .next (rxChar b s)

/-- FRAME: the frame arrives, one sample in each slot: RX_FRAME (R82, R100, R156). -/
def execFrame (id : Ident) (s : State) : Host.Outcome State Fault Refusal := .next (rxFrame id s)

/-- ID48: HOST drives the identity on the port `send_id`; no strobe, so no operation (R64, R21, R97). -/
def execId48 (id : Ident) (s : State) : Host.Outcome State Fault Refusal := .next { s with sendIdPort := id }

/-- IVL: a SEND through the REPLAY backend, whose interval list is `Intervals(id)`, in one shot; rejected as SEND is (R139, R88). -/
def execIvl (id : Ident) (s : State) : Host.Outcome State Fault Refusal :=
  .next (if s.txEn && !s.txBusy then replayIntervals (intervals id) (acceptSend id s) else sendOp id s)

end Sys2Proof.Machine
end

