-- ==== Sys2Proof/Machine/Dispatch.lean ====
section
/-! DEFINITION. The dispatch: one arm per row of spec/opcode_table.json. -/

namespace Sys2Proof.Machine

def exec (i : Instr) (s : State) : Host.Outcome State Fault Refusal :=
  match i with
  | .reset => Sys2Proof.Machine.execReset s
  | .mbRead => Sys2Proof.Machine.execMbRead s
  | .send id => Sys2Proof.Machine.execSend id s
  | .initRx ok => Sys2Proof.Machine.execInitRx ok s
  | .initTx ok => Sys2Proof.Machine.execInitTx ok s
  | .rxTick level => Sys2Proof.Machine.execRxTick level s
  | .txTick => Sys2Proof.Machine.execTxTick s
  | .nop => Sys2Proof.Machine.execNop s
  | .bcClk => Sys2Proof.Machine.execBcClk s
  | .rxTickIdleHigh => Sys2Proof.Machine.execRxTickIdleHigh s
  | .rxTickStart => Sys2Proof.Machine.execRxTickStart s
  | .rxTickData idx v => Sys2Proof.Machine.execRxTickData idx v s
  | .rxTickStop level => Sys2Proof.Machine.execRxTickStop level s
  | .byteDoneWp1Hit => Sys2Proof.Machine.execByteDoneWp1Hit s
  | .byteDoneWp1Miss => Sys2Proof.Machine.execByteDoneWp1Miss s
  | .byteDoneWp2Hit => Sys2Proof.Machine.execByteDoneWp2Hit s
  | .byteDoneWp2Miss => Sys2Proof.Machine.execByteDoneWp2Miss s
  | .byteDoneColStore => Sys2Proof.Machine.execByteDoneColStore s
  | .byteDoneColLast => Sys2Proof.Machine.execByteDoneColLast s
  | .txTickStart y => Sys2Proof.Machine.execTxTickStart y s
  | .txTickDataD0 y => Sys2Proof.Machine.execTxTickDataD0 y s
  | .txTickDataD1 y => Sys2Proof.Machine.execTxTickDataD1 y s
  | .txTickDataD2 y => Sys2Proof.Machine.execTxTickDataD2 y s
  | .txTickDataD3 y => Sys2Proof.Machine.execTxTickDataD3 y s
  | .txTickDataD4 y => Sys2Proof.Machine.execTxTickDataD4 y s
  | .txTickDataD5 y => Sys2Proof.Machine.execTxTickDataD5 y s
  | .txTickDataD6 y => Sys2Proof.Machine.execTxTickDataD6 y s
  | .txTickDataD7 y => Sys2Proof.Machine.execTxTickDataD7 y s
  | .txTickStop y => Sys2Proof.Machine.execTxTickStop y s
  | .txTickEnd => Sys2Proof.Machine.execTxTickEnd s
  | .sendAccept id => Sys2Proof.Machine.execSendAccept id s
  | .sendRejectDisabled => Sys2Proof.Machine.execSendRejectDisabled s
  | .sendRejectBusy => Sys2Proof.Machine.execSendRejectBusy s
  | .mbReadFull => Sys2Proof.Machine.execMbReadFull s
  | .mbReadEmpty => Sys2Proof.Machine.execMbReadEmpty s
  | .initRxOk => Sys2Proof.Machine.execInitRxOk s
  | .initRxFail => Sys2Proof.Machine.execInitRxFail s
  | .initRxIgnoredEnabled => Sys2Proof.Machine.execInitRxIgnoredEnabled s
  | .initRxIgnoredFailed => Sys2Proof.Machine.execInitRxIgnoredFailed s
  | .initTxOk => Sys2Proof.Machine.execInitTxOk s
  | .initTxFail => Sys2Proof.Machine.execInitTxFail s
  | .initTxIgnoredEnabled => Sys2Proof.Machine.execInitTxIgnoredEnabled s
  | .initTxIgnoredFailed => Sys2Proof.Machine.execInitTxIgnoredFailed s
  | .frameEmitDrop => Sys2Proof.Machine.execFrameEmitDrop s
  | .frameEmitForward => Sys2Proof.Machine.execFrameEmitForward s
  | .bcStartRx => Sys2Proof.Machine.execBcStartRx s
  | .bcStartTx => Sys2Proof.Machine.execBcStartTx s
  | .bcStop => Sys2Proof.Machine.execBcStop s
  | .byteDone => Sys2Proof.Machine.execByteDone s
  | .frameEmit => Sys2Proof.Machine.execFrameEmit s
  | .mbWrite => Sys2Proof.Machine.execMbWrite s
  | .char b => Sys2Proof.Machine.execChar b s
  | .frame id => Sys2Proof.Machine.execFrame id s
  | .id48 id => Sys2Proof.Machine.execId48 id s
  | .ivl id => Sys2Proof.Machine.execIvl id s

end Sys2Proof.Machine
end

