-- ==== Sys2Proof/Machine/Edge.lean ====
section
/-! DEFINITION. One entry of the trace performed: the operations of a timeless step, a `clk` edge, or one coded row
(60_exceptions.md R229, 40_bitclock.md R119). -/

namespace Sys2Proof.Machine

/-- The operations in order, "each seeing the state the previous one left" (R229). -/
def runAll : List Instr → State → Host.Outcome State Fault Refusal
  | [], s => .next s
  | i :: is, s =>
    match exec i s with
    | .next t => runAll is t
    | .fault r => .fault r
    | .refused r => .refused r

/-- A state update after an outcome. -/
def andThen (f : State → State) : Host.Outcome State Fault Refusal → Host.Outcome State Fault Refusal
  | .next s => .next (f s)
  | .fault r => .fault r
  | .refused r => .refused r

/-- One rising edge of `clk` (R229): RESET alone if `rst = 1`; else the counters advance and the selected operations and the ticks
are performed in order, a BC_START among them overriding its counter's advance. The synchroniser and the carrier counter move
at every edge (R25, R36). -/
def clkEdge (bits : BitVec 80) (s : State) : Host.Outcome State Fault Refusal :=
  andThen (shiftFree (pinRxIn bits)) (if evRst bits then exec .reset s else runAll (edgeOps bits s) (bcCount s))

/-- One coded row, by the decoder. -/
def runDecoded (c : Code) (s : State) : Host.Outcome State Fault Refusal :=
  match decode c with
  | .ok i => exec i s
  | .error why => .refused (.undecodable why)

/-- One entry of the trace. An internal operation is no step of an agent (R15, R17; log 10). -/
def runCode (c : Code) (s : State) : Host.Outcome State Fault Refusal :=
  match c.fmt with
  | .ev => runAll (evOps c.bits s) s
  | .clk => clkEdge c.bits s
  | _ => if c.fmt.internal then .refused .internalOperation else runDecoded c s

/-- The next step: the oldest entry of the trace; where no agent acts "the state holds" (R97; log 1). A state with a value of U7
or a counter out of range is refused (log 20). -/
def nextStep (s : State) : Host.Outcome State Fault Refusal :=
  if launchable s then
    match s.trace with
    | [] => .next (fetched [] s)
    | c :: rest => runCode c (fetched rest s)
  else .refused .unreachableState

end Sys2Proof.Machine
end

