-- ==== Sys2Proof/Machine/Step.lean ====
section
/-! DEFINITION. The step of the machine, and a table word placed where it is fetched. -/

namespace Sys2Proof.Machine

/-- One step: one operation of an agent, one timeless EV, or one `clk` edge, as the trace says (00_scope.md R15, R17). -/
def step (s : State) : Host.Outcome State Fault Refusal := nextStep s

/-- The table word `w` as the next entry of the trace. -/
def State.withFetchWord (s : State) (nbits w : Nat) : State := placeCode (tableCode nbits w) s

end Sys2Proof.Machine
end

