-- ==== Sys2Proof/Safety.lean ====
section
/-! DEFINITION. The invariants of 10_state.md R40, and the states runs reach. -/

namespace Sys2Proof.Machine

/-- The nine invariants of R40. Its first is the types' (`rxIdx`, `plIdx`, `txBit`, `txByte`, `syState`); "is not `U`" is met by
every value (log 2). -/
structure State.Inv (s : State) : Prop where
  endPosition : s.txByte.val = 8 → s.txBit.val = 0
  idleEnvelope : s.txBusy = false → s.txEnv = false
  busyEnabled : s.txBusy = true → s.txEn = true
  receivingEnabled : s.rxBusy = true → s.rxEn = true
  rxEnabledNoError : s.rxEn = true → s.rxErr = false
  txEnabledNoError : s.txEn = true → s.txErr = false
  readyForeign : s.mbReady = true → s.mbSlot ≠ s.cfg.localId
  busyPreamble1 : s.txBusy = true → s.txFrame[0] = Config.preamble1
  busyPreamble2 : s.txBusy = true → s.txFrame[1] = Config.preamble2
  rxCntRange : s.rxCnt < s.cfg.bitDiv
  txCntRange : s.txCnt < s.cfg.bitDiv

/-- The states reached from `s` by steps that answer a next state, whatever the trace brings: before each step the agents may
have put any entries on it (R17, R119: any interleaving). -/
inductive Reaches (s : State) : State → Prop where
  | start : Reaches s s
  | agents {t : State} (cs : List Code) : Reaches s t → Reaches s { t with trace := cs }
  | step {t u : State} : Reaches s t → Sys2Proof.Machine.step t = .next u → Reaches s u

/-! ## Elements that stay as they are -/

/-- The elements that only TXCLK and SEND write (R233). -/
structure SameTx (s t : State) : Prop where
  txBusy : t.txBusy = s.txBusy
  txByte : t.txByte = s.txByte
  txBit : t.txBit = s.txBit
  txFrame : t.txFrame = s.txFrame
  txEnv : t.txEnv = s.txEnv
  txCnt : t.txCnt = s.txCnt
  txEn : t.txEn = s.txEn
  txErr : t.txErr = s.txErr
  sendResp : t.sendResp = s.sendResp

/-- The elements of the receive path and the mailbox (R233). -/
structure SameRx (s t : State) : Prop where
  rxBusy : t.rxBusy = s.rxBusy
  rxIdx : t.rxIdx = s.rxIdx
  rxByte : t.rxByte = s.rxByte
  syState : t.syState = s.syState
  plIdx : t.plIdx = s.plIdx
  pl : t.pl = s.pl
  mbReady : t.mbReady = s.mbReady
  mbSlot : t.mbSlot = s.mbSlot
  rxCnt : t.rxCnt = s.rxCnt
  rxEn : t.rxEn = s.rxEn
  rxErr : t.rxErr = s.rxErr
  readResp : t.readResp = s.readResp

/-- The elements that no tick and no host operation writes. -/
structure SameRest (s t : State) : Prop where
  rxMeta : t.rxMeta = s.rxMeta
  carCnt : t.carCnt = s.carCnt
  cfg : t.cfg = s.cfg
  sendIdPort : t.sendIdPort = s.sendIdPort
  trace : t.trace = s.trace

/-! ## Who writes what (60_exceptions.md R233) -/

/-- The rows of R233's table, the enables by role, and the model's own fields. -/
inductive Element where
  | sampler
  | synchronizer
  | mbSlot
  | mbReady
  | txFrame
  | txPosition
  | txBusy
  | txEnv
  | rxRole
  | txRole
  | rxCounter
  | txCounter
  | sendPort
  | sendResponse
  | readResponse
  | fixed
deriving DecidableEq, Repr

/-- The elements agree in two states. -/
def Element.same (s t : State) : Element → Prop
  | .sampler => t.rxBusy = s.rxBusy ∧ t.rxIdx = s.rxIdx ∧ t.rxByte = s.rxByte
  | .synchronizer => t.syState = s.syState ∧ t.plIdx = s.plIdx ∧ t.pl = s.pl
  | .mbSlot => t.mbSlot = s.mbSlot
  | .mbReady => t.mbReady = s.mbReady
  | .txFrame => t.txFrame = s.txFrame
  | .txPosition => t.txByte = s.txByte ∧ t.txBit = s.txBit
  | .txBusy => t.txBusy = s.txBusy
  | .txEnv => t.txEnv = s.txEnv
  | .rxRole => t.rxEn = s.rxEn ∧ t.rxErr = s.rxErr
  | .txRole => t.txEn = s.txEn ∧ t.txErr = s.txErr
  | .rxCounter => t.rxCnt = s.rxCnt
  | .txCounter => t.txCnt = s.txCnt
  | .sendPort => t.sendIdPort = s.sendIdPort
  | .sendResponse => t.sendResp = s.sendResp
  | .readResponse => t.readResp = s.readResp
  | .fixed => t.rxMeta = s.rxMeta ∧ t.carCnt = s.carCnt ∧ t.cfg = s.cfg ∧ t.trace = s.trace

/-- The rows that perform any RX_TICK: RX_TICK itself, BC_CLK, and the characters that arrive. -/
def receives : Instr → Bool
  | .rxTick _ | .bcClk | .char _ | .frame _ => true
  | _ => false

/-- The rows that are, or perform, a BYTE_DONE. -/
def completesByte : Instr → Bool
  | .rxTickStop _ | .byteDone | .byteDoneWp1Hit | .byteDoneWp1Miss | .byteDoneWp2Hit | .byteDoneWp2Miss | .byteDoneColStore
  | .byteDoneColLast => true
  | i => receives i

/-- The rows that are, or perform, an MB_WRITE. -/
def deliversFrame : Instr → Bool
  | .rxTickStop _ | .byteDone | .byteDoneColLast | .frameEmit | .frameEmitForward | .mbWrite => true
  | i => receives i

/-- The rows that drive a slot: the sub-cases of TX_TICK but TX_TICK.end. -/
def drivesSlot : Instr → Bool
  | .txTickStart _ | .txTickDataD0 _ | .txTickDataD1 _ | .txTickDataD2 _ | .txTickDataD3 _ | .txTickDataD4 _
  | .txTickDataD5 _ | .txTickDataD6 _ | .txTickDataD7 _ | .txTickStop _ => true
  | _ => false

/-- The rows that are, or perform, TX_TICKs. -/
def transmits (i : Instr) : Bool := drivesSlot i || i = .txTick || i = .txTickEnd || i = .bcClk

/-- The rows that accept a SEND: SEND, its sub-case, and IVL as a SEND (log 12). -/
def sends : Instr → Bool
  | .send _ | .sendAccept _ | .ivl _ => true
  | _ => false

/-- The rows that may write an element: the owners R233 names, by the operations that write it (R112 to R117, R131, R133, R152,
R172, R201, R202), and RESET where R250 lists it. Where a row is one of the model's own readings it stands with the operations
it performs: CHAR, FRAME (log 11), IVL (log 12), ID48 (log 13), BC_CLK (log 26), the responses (log 7). -/
def Element.writers (i : Instr) : Element → Bool
  | .sampler =>
    i = .reset || receives i || (match i with | .rxTickStart | .rxTickData _ _ | .rxTickStop _ => true | _ => false)
  | .synchronizer => i = .reset || completesByte i
  | .mbSlot => deliversFrame i
  | .mbReady => i = .reset || deliversFrame i || i = .mbRead || i = .mbReadFull
  | .txFrame => sends i
  | .txPosition => i = .reset || sends i || drivesSlot i || i = .txTick || i = .bcClk
  | .txBusy => i = .reset || sends i || i = .txTick || i = .txTickEnd || i = .bcClk
  | .txEnv => i = .reset || transmits i || (match i with | .ivl _ => true | _ => false)
  | .rxRole => i = .reset || i = .initRxOk || i = .initRxFail || (match i with | .initRx _ => true | _ => false)
  | .txRole => i = .reset || i = .initTxOk || i = .initTxFail || (match i with | .initTx _ => true | _ => false)
  | .rxCounter =>
    i = .reset || i = .bcClk || i = .initRxOk || i = .bcStartRx || (match i with | .initRx _ => true | _ => false)
  | .txCounter => i = .reset || i = .bcClk || i = .bcStartTx || sends i
  | .sendPort => (match i with | .id48 _ => true | _ => false)
  | .sendResponse => sends i || i = .sendRejectDisabled || i = .sendRejectBusy
  | .readResponse => i = .mbRead || i = .mbReadFull || i = .mbReadEmpty
  | .fixed => false

/-! ## Runs, and the weak fairness of the two clocks (40_bitclock.md R119) -/

/-- An endless run: at each step the agents bring one entry, and the step answers the next state. -/
structure Run where
  state : Nat → State
  entry : Nat → Code
  moves : ∀ n, Sys2Proof.Machine.step { state n with trace := [entry n] } = .next (state (n + 1))

/-- Two codes select the same row. -/
def sameRow (x y : Except Reject Instr) : Bool :=
  match x, y with
  | .ok i, .ok j => i == j
  | _, _ => false

/-- Whether performing an entry in a state performs a TX_TICK of a running transmission. -/
def performsTxTick (c : Code) (s : State) : Bool :=
  txRuns s &&
    match c.fmt with
    | .ev => !evRst c.bits && evTxTick c.bits
    | .clk => !evRst c.bits && txTickDue s
    | .txd => sameRow (decode c) (decode ⟨.txd, (txdVector s).setWidth 80⟩)
    | _ => false

/-- Whether performing an entry in a state performs an RX_TICK of an enabled receiver. -/
def performsRxTick (c : Code) (s : State) : Bool :=
  rxRuns s &&
    match c.fmt with
    | .ev => !evRst c.bits && evRxTick c.bits
    | .clk => !evRst c.bits && rxTickDue s
    | .rxd => sameRow (decode c) (decode ⟨.rxd, (rxdVector s (c.bits.getLsbD 0)).setWidth 80⟩)
    | .char | .frame => decodes c
    | _ => false

/-- Weak fairness of both clocks (R119): "while `tx_busy = 1` a TX_TICK eventually occurs", and "while `rx_en = 1` RX_TICKs keep
occurring". A premise on runs; no step depends on it. -/
structure FairClocks (r : Run) : Prop where
  tx : ∀ n, (∀ m, n ≤ m → (r.state m).txBusy = true) → ∃ m, n ≤ m ∧ performsTxTick (r.entry m) (r.state m) = true
  rx : ∀ n, (∀ m, n ≤ m → (r.state m).rxEn = true) → ∃ m, n ≤ m ∧ performsRxTick (r.entry m) (r.state m) = true

/-- An entry that performs RESET. -/
def resets (c : Code) : Bool :=
  match c.fmt with
  | .ev | .clk => evRst c.bits
  | _ => false

/-- How many TX_TICKs a run performs in its `k` steps from step `n` on. -/
def txTicksIn (r : Run) (n k : Nat) : Nat :=
  ((List.range k).filter fun j => performsTxTick (r.entry (n + j)) (r.state (n + j))).length

/-! ## Runs of clock edges -/

/-- An operation of an edge: performed if its bit is 1, else nothing happens. -/
def Performs (bit : Bool) (i : Instr) (s t : State) : Prop := if bit then exec i s = .next t else t = s

/-- A trace of `clk` edges (R229). -/
def edgeTrace (es : List (BitVec 80)) : List Code := es.map fun e => ⟨.clk, e⟩

/-- No edge of the list has `rst = 1`. -/
def noReset (es : List (BitVec 80)) : Prop := ∀ e ∈ es, evRst e = false

/-- The state after the edges, where they all answer a next state. -/
def AfterEdges (s : State) (es : List (BitVec 80)) (t : State) : Prop :=
  Host.Core.run { State := State, Fault := Fault, Refusal := Refusal, step := step, reset := State.reset } es.length
    { s with trace := edgeTrace es } = .next t

/-- BYTE_DONE of one byte after another (R172). -/
def bytesDone (bs : List Byte) (s : State) : State := bs.foldl (fun t b => byteDoneOp b t) s

end Sys2Proof.Machine
end

