-- ==== Sys2Proof/WellFormed.lean ====
section
/-! DEFINITION. Well-formed instructions. The index operands are the four-bit elements `rx_idx` and `tx_byte`, and the patterns
`10kkkv` and `0yyy....` fix their top bit at 0 (30_encoding.md R91, R93). -/

namespace Sys2Proof

/-- An index whose top bit the pattern fixes at 0. -/
abbrev indexFits (i : BitVec 4) : Prop := i.toNat < 8

/-- The operands a row's pattern admits. -/
def Instr.wf : Instr → Bool
  | .rxTickData idx _ => decide (indexFits idx)
  | .txTickStart y | .txTickDataD0 y | .txTickDataD1 y | .txTickDataD2 y | .txTickDataD3 y | .txTickDataD4 y
  | .txTickDataD5 y | .txTickDataD6 y | .txTickDataD7 y | .txTickStop y => decide (indexFits y)
  | .reset | .mbRead | .send _ | .initRx _ | .initTx _ | .rxTick _ | .txTick | .nop | .bcClk | .rxTickIdleHigh | .rxTickStart
  | .rxTickStop _ | .byteDoneWp1Hit | .byteDoneWp1Miss | .byteDoneWp2Hit | .byteDoneWp2Miss | .byteDoneColStore
  | .byteDoneColLast | .txTickEnd | .sendAccept _ | .sendRejectDisabled | .sendRejectBusy | .mbReadFull | .mbReadEmpty
  | .initRxOk | .initRxFail | .initRxIgnoredEnabled | .initRxIgnoredFailed | .initTxOk | .initTxFail | .initTxIgnoredEnabled
  | .initTxIgnoredFailed | .frameEmitDrop | .frameEmitForward | .bcStartRx | .bcStartTx | .bcStop | .byteDone | .frameEmit
  | .mbWrite | .char _ | .frame _ | .id48 _ | .ivl _ => true

end Sys2Proof
end

