-- ==== Sys2Proof/Certificates/Slice0/Obligations.lean ====
section
/-! DEFINITION. The statements for the provers. -/

open Sys2Proof Sys2Proof.Machine

/-! ## The step, the codes, the select vectors -/

/-- A step performs the row that the oldest entry of the trace decodes to. DESIGN CHOICE: the trace is the model's (log 1). -/
def Obligations.StepRunsTheDecodedRow : Prop :=
  ∀ (s : State) (c : Code) (rest : List Code) (i : Instr), launchable s = true → s.trace = c :: rest → c.fmt ≠ .clk →
    c.fmt.internal = false → decode c = .ok i → i.wf = true → step s = exec i (fetched rest s)

/-- A clock edge that selects one row alone (RESET, or BC_CLK) performs it, then shifts the synchroniser and counts the carrier
(R229, R25, R36; log 14, log 15). Any edge without RESET: both counters advance by the state before the edge; then MB_READ, SEND
of the identity on the port (log 13), INIT_RX, INIT_TX, as requested, then RX_TICK with the level that stood in `rx_meta[1]`
before the edge (log 15) and TX_TICK, where their clock ran and was due before the edge, each on the state the one before it
left; then the synchroniser and the carrier counter move (R229 items 2 and 3, R114). -/
def Obligations.ClockEdgePerformsItsRow : Prop :=
  (∀ (s t : State) (c : Code) (rest : List Code) (i : Instr), launchable s = true → s.trace = c :: rest → c.fmt = .clk →
    decode c = .ok i → exec i (fetched rest s) = .next t → step s = .next (shiftFree (pinRxIn c.bits) t)) ∧
  (∀ (s s0 s1 s2 s3 s4 s5 s6 : State) (bits : BitVec 80) (rest : List Code), launchable s = true →
    s.trace = ⟨.clk, bits⟩ :: rest → evRst bits = false →
    s0 = { s with
      trace := rest, sendResp := none, readResp := none,
      rxCnt := if s.rxEn then (if s.rxCnt + 1 = s.cfg.bitDiv then 0 else s.rxCnt + 1) else s.rxCnt,
      txCnt := if s.txBusy then (if s.txCnt + 1 = s.cfg.bitDiv then 0 else s.txCnt + 1) else s.txCnt } →
    Performs (evMbRd bits) .mbRead s0 s1 → Performs (evSendReq bits) (.send s.sendIdPort) s1 s2 →
    Performs (evInitRx bits) (.initRx (pinInitRxOk bits)) s2 s3 →
    Performs (evInitTx bits) (.initTx (pinInitTxOk bits)) s3 s4 →
    Performs (s.rxEn && s.rxCnt + 1 == s.cfg.bitDiv) (.rxTick (s.rxMeta.getLsbD 1)) s4 s5 →
    Performs (s.txBusy && s.txCnt + 1 == s.cfg.bitDiv) .txTick s5 s6 →
    step s = .next (shiftFree (pinRxIn bits) s6))

/-- A table word that decodes runs as the next step. DESIGN CHOICE: how a word is placed (log 1, log 9). -/
def Obligations.PlacedTableWordRuns : Prop :=
  ∀ (s : State) (nbits w : Nat) (i : Instr), launchable s = true → decodeTableWord nbits w = some i →
    (tableCode nbits w).fmt.internal = false → step (s.withFetchWord nbits w) = exec i (fetched s.trace s)

/-- Where the step stops, and that an empty trace holds the state. DESIGN CHOICE (log 1, log 10, log 20). -/
def Obligations.StepStopsOnlyByName : Prop :=
  (∀ s : State, launchable s = false → step s = .refused .unreachableState) ∧
  (∀ s : State, launchable s = true ↔ (s.txByte.val = 8 → s.txBit.val = 0) ∧ (s.txBusy = false → s.txEnv = false) ∧
    s.rxCnt < s.cfg.bitDiv ∧ s.txCnt < s.cfg.bitDiv) ∧
  (∀ s : State, launchable s = true → s.trace = [] → step s = .next { s with sendResp := none, readResp := none }) ∧
  (∀ (s : State) (c : Code) (rest : List Code), launchable s = true → s.trace = c :: rest → c.fmt.internal = true →
    step s = .refused .internalOperation) ∧
  (∀ (s : State) (c : Code) (rest : List Code) (why : Reject), launchable s = true → s.trace = c :: rest →
    c.fmt.internal = false → c.fmt ≠ .ev → c.fmt ≠ .clk → decode c = .error why → step s = .refused (.undecodable why)) ∧
  (∀ (s : State) (c : Code) (rest : List Code), launchable s = true → s.trace = c :: rest → c.fmt = .ev ∨ c.fmt = .clk →
    ∃ t, step s = .next t)

/-- Table words written out from the table decode to their rows. -/
def Obligations.TableWordsDecode : Prop :=
  decodeTableWord 8 0x40 = some .reset ∧ decodeTableWord 8 0x20 = some .mbRead ∧ decodeTableWord 8 0x10 = some (.send 0#48) ∧
  decodeTableWord 8 0x08 = some (.initRx false) ∧ decodeTableWord 8 0x02 = some (.rxTick false) ∧
  decodeTableWord 8 0x00 = some .nop ∧ decodeTableWord 8 0x80 = some .txTickEnd ∧
  decodeTableWord 16 0b0010110101 = some (.char 0x5A#8) ∧ decodeTableWord 48 0x060504030201 = some (.id48 0x060504030201#48) ∧
  decodeTableWord 80 0xD2BAABFB7E9FBBEAFB3E = some (.ivl 0x060504030201#48)

/-- Decode and encode agree, for every row and every operand its pattern admits. -/
def Obligations.DecodeOfEncodeIsTheRow : Prop := ∀ i : Instr, i.wf = true → decode (encode i) = .ok i

/-- Whatever decodes is well-formed. -/
def Obligations.DecodedRowsAreWellFormed : Prop := ∀ (c : Code) (i : Instr), decode c = .ok i → i.wf = true

/-- The bits of FRAME and CHAR are their slots in time order, those of IVL the envelope's (R81, R82, R85, R88). -/
def Obligations.WireCodesAreTheirSlots : Prop :=
  (∀ (b : Byte) (n : Nat), n < 10 → (encode (.char b)).bits.getLsbD (9 - n) = slotBit b n) ∧
  (∀ (id : Ident) (n : Nat), n < 80 → (encode (.frame id)).bits.getLsbD (79 - n) =
    slotBit ((frameBytes id).toList.getD (n / 10) 0#8) (n % 10)) ∧
  (∀ (id : Ident) (n : Nat), n < 80 → some ((encode (.ivl id)).bits.getLsbD (79 - n)) = (frameEnv id)[n]?)

/-- An EV vector selects a row exactly where `(EV & mask) == match` with the table's mask and match (R90, R101), a tick only
while its clock runs (R119; log 23). RESET stands alone; the selected rows stand in the order MB_READ, SEND, INIT_RX, INIT_TX,
RX_TICK, TX_TICK (R229); a timeless step performs them in that order, each on the state the one before it left. -/
def Obligations.EvRowsMatchTheTable : Prop :=
  ∀ (bits : BitVec 80) (s : State),
    (.reset ∈ evOps bits s ↔ evOf bits &&& 0x40#7 = 0x40#7) ∧
    (.mbRead ∈ evOps bits s ↔ evOf bits &&& 0x60#7 = 0x20#7) ∧
    (.send (pinSendId bits) ∈ evOps bits s ↔ evOf bits &&& 0x50#7 = 0x10#7) ∧
    (.initRx (pinInitRxOk bits) ∈ evOps bits s ↔ evOf bits &&& 0x48#7 = 0x08#7) ∧
    (.initTx (pinInitTxOk bits) ∈ evOps bits s ↔ evOf bits &&& 0x44#7 = 0x04#7) ∧
    (.rxTick (pinRxIn bits) ∈ evOps bits s ↔ evOf bits &&& 0x42#7 = 0x02#7 ∧ s.rxEn = true) ∧
    (.txTick ∈ evOps bits s ↔ evOf bits &&& 0x41#7 = 0x01#7 ∧ s.txBusy = true) ∧
    (evOf bits &&& 0x7F#7 = 0x00#7 → evOps bits s = [.nop]) ∧
    (evOf bits &&& 0x40#7 = 0x40#7 → evOps bits s = [.reset]) ∧
    (evOps bits s = [.nop] ∨ (evOps bits s).Sublist [.reset, .mbRead, .send (pinSendId bits), .initRx (pinInitRxOk bits),
      .initTx (pinInitTxOk bits), .rxTick (pinRxIn bits), .txTick]) ∧
    (∀ rest : List Code, launchable s = true → s.trace = ⟨.ev, bits⟩ :: rest →
      step s = runAll (evOps bits s) (fetched rest s))

/-- RX_TICK is the sub-case that its RXD vector selects, and one is always selected (R91). -/
def Obligations.RxTickIsItsSubcase : Prop :=
  ∀ (s : State) (level : Bool), ∃ i, decode ⟨.rxd, (rxdVector s level).setWidth 80⟩ = .ok i ∧
    exec (.rxTick level) s = exec i s

/-- TX_TICK is the sub-case that its TXD vector selects (R93). -/
def Obligations.TxTickIsItsSubcase : Prop :=
  ∀ (s : State) (i : Instr), decode ⟨.txd, (txdVector s).setWidth 80⟩ = .ok i → exec .txTick s = exec i s

/-- BYTE_DONE, called with a completed byte, is the sub-case that its SYD vector selects, and one is always selected (R92). -/
def Obligations.ByteDoneIsItsSubcase : Prop :=
  ∀ s : State, s.rxBusy = true → s.rxIdx.val = 8 →
    ∃ i, decode ⟨.syd, (sydVector s s.rxByte).setWidth 80⟩ = .ok i ∧ exec .byteDone s = exec i s

/-- SEND, MB_READ, INIT_RX, INIT_TX and FRAME_EMIT are the sub-cases that their HSD vectors select (R94). -/
def Obligations.HostOperationsAreTheirSubcases : Prop :=
  ∀ s : State,
    (∀ id : Ident, ∃ i, decodeHsdSend (hsdSendVector s) id = .ok i ∧ exec (.send id) s = exec i s) ∧
    (∃ i, decodeHsdMbRead (hsdMbReadVector s) = .ok i ∧ exec .mbRead s = exec i s) ∧
    (∀ ok : Bool, ∃ i, decodeHsdInitRx (hsdInitRxVector s ok) = .ok i ∧ exec (.initRx ok) s = exec i s) ∧
    (∀ ok : Bool, ∃ i, decodeHsdInitTx (hsdInitTxVector s ok) = .ok i ∧ exec (.initTx ok) s = exec i s) ∧
    (s.syState = .col → s.plIdx.val = 5 →
      ∃ i, decodeHsdEmit (hsdEmitVector s (doneIdent s)) = .ok i ∧ exec .frameEmit s = exec i s)

/-! ## Results of the rows: each is the whole next state, so it states the frame too -/

/-- RESET writes every flag and sequencing element, and no other (R250, R50). That the registers to which R50 gives `U` keep their
bits is DEDUCED from R250's "not written" (log 24, unsafe). -/
def Obligations.ResetResult : Prop :=
  ∀ s : State, exec .reset s = .next
    { s with
      rxEn := false, txEn := false, rxErr := false, txErr := false, rxCnt := 0, txCnt := 0, rxBusy := false, rxIdx := 0,
      syState := .wp1, plIdx := 0, mbReady := false, txBusy := false, txByte := 0, txBit := 0, txEnv := false }

/-- The rows that write nothing: NOP (R97), BC_STOP (R113), RX_TICK.idle_high (R152), FRAME_EMIT.drop (R191), INIT ignored
(R116, R117); and every row in a state in which its vector, or its run condition, does not select it (DEDUCED: log 5; which
operand an internal row is called with: log 10). -/
def Obligations.RowsThatWriteNothing : Prop :=
  (∀ (s : State) (i : Instr),
    i ∈ [.nop, .bcStop, .rxTickIdleHigh, .frameEmitDrop, .initRxIgnoredEnabled, .initRxIgnoredFailed, .initTxIgnoredEnabled,
      .initTxIgnoredFailed] →
    exec i s = .next s) ∧
  (∀ (s : State) (idx : BitVec 4) (level : Bool),
    (¬(s.rxEn = true ∧ s.rxBusy = false) → exec .rxTickStart s = .next s) ∧
    (¬(s.rxEn = true ∧ s.rxBusy = true ∧ s.rxIdx.val = idx.toNat ∧ idx.toNat < 8) →
      exec (.rxTickData idx level) s = .next s) ∧
    (¬(s.rxEn = true ∧ s.rxBusy = true ∧ s.rxIdx.val = 8) → exec (.rxTickStop level) s = .next s)) ∧
  (∀ s : State,
    (¬(s.syState = .wp1 ∧ s.rxByte = 0x5A#8) → exec .byteDoneWp1Hit s = .next s) ∧
    (¬(s.syState = .wp1 ∧ s.rxByte ≠ 0x5A#8) → exec .byteDoneWp1Miss s = .next s) ∧
    (¬(s.syState = .wp2 ∧ s.rxByte = 0x54#8) → exec .byteDoneWp2Hit s = .next s) ∧
    (¬(s.syState = .wp2 ∧ s.rxByte ≠ 0x54#8) → exec .byteDoneWp2Miss s = .next s) ∧
    (¬(s.syState = .col ∧ s.plIdx.val < 5) → exec .byteDoneColStore s = .next s) ∧
    (¬(s.syState = .col ∧ s.plIdx.val = 5) → exec .byteDoneColLast s = .next s)) ∧
  (∀ (s : State) (y : BitVec 4) (k : Fin 10) (i : Instr),
    [.txTickStart y, .txTickDataD0 y, .txTickDataD1 y, .txTickDataD2 y, .txTickDataD3 y, .txTickDataD4 y, .txTickDataD5 y,
      .txTickDataD6 y, .txTickDataD7 y, .txTickStop y][k.val]? = some i →
    ¬(s.txBusy = true ∧ s.txByte.val = y.toNat ∧ y.toNat < 8 ∧ s.txBit.val = k.val) → exec i s = .next s) ∧
  (∀ (s : State) (id : Ident),
    (¬(s.txBusy = true ∧ s.txByte.val = 8 ∧ s.txBit.val = 0) → exec .txTickEnd s = .next s) ∧
    (¬(s.txEn = true ∧ s.txBusy = false) → exec (.sendAccept id) s = .next s ∧ exec .bcStartTx s = .next s) ∧
    (s.txEn = true → exec .sendRejectDisabled s = .next s) ∧
    (¬(s.txEn = true ∧ s.txBusy = true) → exec .sendRejectBusy s = .next s) ∧
    (s.mbReady = false → exec .mbReadFull s = .next s) ∧
    (s.mbReady = true → exec .mbReadEmpty s = .next s) ∧
    (s.rxEn = true ∨ s.rxErr = true →
      exec .initRxOk s = .next s ∧ exec .initRxFail s = .next s ∧ exec .bcStartRx s = .next s) ∧
    (s.txEn = true ∨ s.txErr = true → exec .initTxOk s = .next s ∧ exec .initTxFail s = .next s)) ∧
  (∀ s : State,
    (¬(s.rxBusy = true ∧ s.rxIdx.val = 8) → exec .byteDone s = .next s) ∧
    (¬(s.syState = .col ∧ s.plIdx.val = 5) → exec .frameEmit s = .next s) ∧
    ((∀ k : Fin 6, s.cfg.localId.extractLsb' (8 * k.val) 8 = (s.pl.set 5 s.rxByte)[k.val]) →
      exec .frameEmitForward s = .next s ∧ exec .mbWrite s = .next s))

/-- INIT_RX and its sub-cases, BC_START(RX) (R116, R112). -/
def Obligations.InitRxResult : Prop :=
  ∀ s : State,
    (∀ ok : Bool, s.rxEn = true ∨ s.rxErr = true → exec (.initRx ok) s = .next s) ∧
    (s.rxEn = false → s.rxErr = false →
      exec (.initRx true) s = .next { s with rxEn := true, rxCnt := 0 } ∧
      exec (.initRx false) s = .next { s with rxErr := true } ∧
      exec .initRxOk s = .next { s with rxEn := true, rxCnt := 0 } ∧
      exec .initRxFail s = .next { s with rxErr := true } ∧
      exec .bcStartRx s = .next { s with rxCnt := 0 })

/-- INIT_TX and its sub-cases (R117). -/
def Obligations.InitTxResult : Prop :=
  ∀ s : State,
    (∀ ok : Bool, s.txEn = true ∨ s.txErr = true → exec (.initTx ok) s = .next s) ∧
    (s.txEn = false → s.txErr = false →
      exec (.initTx true) s = .next { s with txEn := true } ∧
      exec (.initTx false) s = .next { s with txErr := true } ∧
      exec .initTxOk s = .next { s with txEn := true } ∧
      exec .initTxFail s = .next { s with txErr := true })

/-- SEND accepted: SEND, SEND.accept and BC_START(TX) (R131, R112). The frame is the preamble and the identity, byte 0 first;
`tx_env` is not written. -/
def Obligations.SendAcceptedResult : Prop :=
  ∀ (s : State) (id : Ident) (i : Instr), s.txEn = true → s.txBusy = false → i = .send id ∨ i = .sendAccept id →
    exec i s = .next
      { s with
        txFrame := #v[0x5A#8, 0x54#8, id.extractLsb' 0 8, id.extractLsb' 8 8, id.extractLsb' 16 8, id.extractLsb' 24 8,
          id.extractLsb' 32 8, id.extractLsb' 40 8],
        txByte := 0, txBit := 0, txBusy := true, txCnt := 0, sendResp := some true } ∧
    exec .bcStartTx s = .next { s with txCnt := 0 }

/-- SEND rejected answers false and changes nothing else: SEND, SEND.reject_disabled, SEND.reject_busy, and IVL as a SEND
(R131, R137, R139). -/
def Obligations.SendRejectedResult : Prop :=
  ∀ (s : State) (id : Ident),
    (s.txEn = false → exec (.send id) s = .next { s with sendResp := some false } ∧
      exec .sendRejectDisabled s = .next { s with sendResp := some false } ∧
      exec (.ivl id) s = .next { s with sendResp := some false }) ∧
    (s.txEn = true → s.txBusy = true → exec (.send id) s = .next { s with sendResp := some false } ∧
      exec .sendRejectBusy s = .next { s with sendResp := some false } ∧
      exec (.ivl id) s = .next { s with sendResp := some false })

/-- MB_READ and its sub-cases: the slot is returned and kept, ready is cleared; an empty mailbox answers none (R202). -/
def Obligations.MbReadResult : Prop :=
  ∀ s : State,
    (s.mbReady = true → ∀ i : Instr, i = .mbRead ∨ i = .mbReadFull →
      exec i s = .next { s with mbReady := false, readResp := some (some s.mbSlot) }) ∧
    (s.mbReady = false → ∀ i : Instr, i = .mbRead ∨ i = .mbReadEmpty →
      exec i s = .next { s with readResp := some none })

/-- FRAME_EMIT, FRAME_EMIT.forward and MB_WRITE on a collected identity: byte `k` is `pl[k]` for `k < 5`, byte 5 the completed
byte; dropped if it is LOCAL_ID, else written to the slot with ready (R172, R191, R201; the operand is log 10). -/
def Obligations.FrameEmitResult : Prop :=
  ∀ (s : State) (id : Ident),
    (∀ k : Fin 6, id.extractLsb' (8 * k.val) 8 = (s.pl.set 5 s.rxByte)[k.val]) →
    (id = s.cfg.localId → s.syState = .col → s.plIdx.val = 5 → exec .frameEmit s = .next s) ∧
    (id ≠ s.cfg.localId →
      (s.syState = .col → s.plIdx.val = 5 → exec .frameEmit s = .next { s with mbSlot := id, mbReady := true }) ∧
      exec .frameEmitForward s = .next { s with mbSlot := id, mbReady := true } ∧
      exec .mbWrite s = .next { s with mbSlot := id, mbReady := true })

/-- BYTE_DONE in WP1 and WP2, and its sub-cases there: the first two rows of R171. -/
def Obligations.ByteDonePreambleResult : Prop :=
  ∀ s : State, s.rxBusy = true → s.rxIdx.val = 8 →
    (s.syState = .wp1 → s.rxByte = 0x5A#8 → ∀ i : Instr, i = .byteDone ∨ i = .byteDoneWp1Hit →
      exec i s = .next { s with syState := .wp2 }) ∧
    (s.syState = .wp1 → s.rxByte ≠ 0x5A#8 → ∀ i : Instr, i = .byteDone ∨ i = .byteDoneWp1Miss → exec i s = .next s) ∧
    (s.syState = .wp2 → s.rxByte = 0x54#8 → ∀ i : Instr, i = .byteDone ∨ i = .byteDoneWp2Hit →
      exec i s = .next { s with syState := .col, plIdx := 0 }) ∧
    (s.syState = .wp2 → s.rxByte ≠ 0x54#8 → ∀ i : Instr, i = .byteDone ∨ i = .byteDoneWp2Miss →
      exec i s = .next { s with syState := .wp1 })

/-- BYTE_DONE in COL, and its sub-cases there: every byte is stored; below index 5 the index advances; at index 5 the state
returns to WP1 and the identity is emitted, that is dropped if it is LOCAL_ID, else written to the mailbox (R171, R172, R191,
R201). -/
def Obligations.ByteDoneCollectResult : Prop :=
  ∀ s : State, s.rxBusy = true → s.rxIdx.val = 8 → s.syState = .col →
    (∀ (k : Fin 5) (i : Instr), s.plIdx.val = k.val → i = .byteDone ∨ i = .byteDoneColStore →
      exec i s = .next { s with pl := s.pl.set k.val s.rxByte, plIdx := k.succ }) ∧
    (∀ (id : Ident) (i : Instr), s.plIdx.val = 5 → i = .byteDone ∨ i = .byteDoneColLast →
      (∀ k : Fin 6, id.extractLsb' (8 * k.val) 8 = (s.pl.set 5 s.rxByte)[k.val]) →
      (id = s.cfg.localId → exec i s = .next { s with pl := s.pl.set 5 s.rxByte, syState := .wp1 }) ∧
      (id ≠ s.cfg.localId → exec i s = .next
        { s with pl := s.pl.set 5 s.rxByte, syState := .wp1, mbSlot := id, mbReady := true }))

/-- RX_TICK while Idle, and its sub-cases there: a high sample does nothing, a low one starts a byte, cleared (R152, R107). -/
def Obligations.RxTickIdleResult : Prop :=
  ∀ s : State, s.rxEn = true → s.rxBusy = false →
    exec (.rxTick true) s = .next s ∧
    exec (.rxTick false) s = .next { s with rxBusy := true, rxIdx := 0, rxByte := 0#8 } ∧
    exec .rxTickStart s = .next { s with rxBusy := true, rxIdx := 0, rxByte := 0#8 }

/-- RX_TICK at sample index `k` of 0 to 7, and RX_TICK.data: the level is ORed into bit `k`, the index advances (R152). -/
def Obligations.RxTickDataResult : Prop :=
  ∀ (s : State) (k : Fin 8) (level : Bool) (i : Instr), s.rxEn = true → s.rxBusy = true → s.rxIdx.val = k.val →
    i = .rxTick level ∨ i = .rxTickData (BitVec.ofNat 4 k.val) level →
    exec i s = .next { s with rxByte := s.rxByte ||| ((BitVec.ofBool level).setWidth 8 <<< k.val), rxIdx := k.succ }

/-- RX_TICK at sample index 8, and RX_TICK.stop: for either level, Idle again and, in the same step, BYTE_DONE of the byte
(R152, R154). -/
def Obligations.StopSlotIsNotValidated : Prop :=
  ∀ (s : State) (level : Bool) (i : Instr), s.rxEn = true → s.rxBusy = true → s.rxIdx.val = 8 →
    i = .rxTick level ∨ i = .rxTickStop level →
    ∃ t, exec .byteDone s = .next t ∧ exec i s = .next { t with rxBusy := false }

/-- TX_TICK at slot `k` of frame byte `y`, and the sub-case rows of every slot: the envelope becomes the complement of the
slot's logic bit, then the position advances by one slot (R133, R83, R85). -/
def Obligations.TxTickDrivesItsSlot : Prop :=
  ∀ (s : State) (y : Fin 8) (k : Fin 10) (i : Instr), s.txBusy = true → s.txByte.val = y.val → s.txBit.val = k.val →
    (i = .txTick ∨
      let n := BitVec.ofNat 4 y.val
      [.txTickStart n, .txTickDataD0 n, .txTickDataD1 n, .txTickDataD2 n, .txTickDataD3 n, .txTickDataD4 n, .txTickDataD5 n,
        .txTickDataD6 n, .txTickDataD7 n, .txTickStop n][k.val]? = some i) →
    exec i s = .next
      (if h : k.val < 9 then
        { s with
          txEnv := if k.val = 0 then true else !(s.txFrame[y.val]).getLsbD (k.val - 1),
          txBit := ⟨k.val + 1, Nat.succ_lt_succ h⟩ }
      else { s with txEnv := false, txBit := 0, txByte := y.succ })

/-- TX_TICK past the last slot, and TX_TICK.end: the envelope is off and busy falls; all else stays (R133, R136). -/
def Obligations.TxTickEndResult : Prop :=
  ∀ s : State, s.txBusy = true → s.txByte.val = 8 →
    exec .txTick s = .next { s with txEnv := false, txBusy := false } ∧
    (s.txBit.val = 0 → exec .txTickEnd s = .next { s with txEnv := false, txBusy := false })

/-- BC_CLK: where no tick is due the running counters, of CNT_W bits, go one up and nothing else changes (R114, R24); CNT_W is the
least width of at least 1 that holds BIT_DIV values (R10), and below BIT_DIV the count does not wrap (R105). DESIGN CHOICE: the
one row counts both instances (log 26), and a counter at BIT_DIV or above, which no run reaches, counts modulo 2^CNT_W (log 6). -/
def Obligations.BcClkCounts : Prop :=
  (∀ s : State, (s.rxEn = true → s.rxCnt + 1 ≠ s.cfg.bitDiv) → (s.txBusy = true → s.txCnt + 1 ≠ s.cfg.bitDiv) →
    exec .bcClk s = .next
      { s with
        rxCnt := if s.rxEn then (s.rxCnt + 1) % 2 ^ s.cfg.cntW else s.rxCnt,
        txCnt := if s.txBusy then (s.txCnt + 1) % 2 ^ s.cfg.cntW else s.txCnt }) ∧
  (∀ (c : Config) (n : Nat), n + 1 < c.bitDiv → (n + 1) % 2 ^ c.cntW = n + 1) ∧
  (∀ c : Config, 1 ≤ c.cntW ∧ c.bitDiv ≤ 2 ^ c.cntW ∧ ∀ w, 1 ≤ w → c.bitDiv ≤ 2 ^ w → c.cntW ≤ w)

/-- BC_CLK: a counter at BIT_DIV - 1 returns to 0 and its tick is performed at the same edge, RX_TICK with the level in
`rx_meta[1]`, before TX_TICK (R114, R25, R229). DESIGN CHOICE: the one row performs both ticks (log 26), and `rx_meta[1]` is taken
as it stood before the edge (log 15). -/
def Obligations.BcClkTicks : Prop :=
  ∀ s t u : State,
    (s.rxEn = true → s.rxCnt + 1 = s.cfg.bitDiv →
      (s.txBusy = true → s.txCnt + 1 ≠ s.cfg.bitDiv) →
      exec (.rxTick (s.rxMeta.getLsbD 1))
        { s with rxCnt := 0, txCnt := if s.txBusy then (s.txCnt + 1) % 2 ^ s.cfg.cntW else s.txCnt } = .next t →
      exec .bcClk s = .next t) ∧
    (s.txBusy = true → s.txCnt + 1 = s.cfg.bitDiv →
      (s.rxEn = true → s.rxCnt + 1 ≠ s.cfg.bitDiv) →
      exec .txTick { s with txCnt := 0, rxCnt := if s.rxEn then (s.rxCnt + 1) % 2 ^ s.cfg.cntW else s.rxCnt } = .next t →
      exec .bcClk s = .next t) ∧
    (s.rxEn = true → s.rxCnt + 1 = s.cfg.bitDiv → s.txBusy = true → s.txCnt + 1 = s.cfg.bitDiv →
      exec (.rxTick (s.rxMeta.getLsbD 1)) { s with rxCnt := 0, txCnt := 0 } = .next t → exec .txTick t = .next u →
      exec .bcClk s = .next u)

/-- Before its INIT a role is inert: with `rx_en = 0` no RX_TICK is performed, whatever arrives; with `tx_busy = 0` no TX_TICK
is (R255, R119; log 5). -/
def Obligations.RoleInertBeforeInit : Prop :=
  ∀ (s : State) (level : Bool) (b : Byte) (id : Ident),
    (s.rxEn = false → exec (.rxTick level) s = .next s ∧ exec (.char b) s = .next s ∧ exec (.frame id) s = .next s) ∧
    (s.txBusy = false → exec .txTick s = .next s)

/-- ID48 drives the port `send_id` and changes nothing else, so not the frame under way (R64, R77). DESIGN CHOICE: what ID48
does (log 13). -/
def Obligations.Id48DrivesThePort : Prop :=
  ∀ (s : State) (id : Ident), exec (.id48 id) s = .next { s with sendIdPort := id }

/-! ## Characters and frames received -/

/-- A character takes ten RX ticks: the low sample that starts it, eight data samples, and one at index 8 whose level is not
used; until then nothing reaches the Synchronizer; then the byte handed over is `AsmByte` of the eight, which for the slots of a
byte is that byte (R153, R87). -/
def Obligations.CharacterTakesTenTicks : Prop :=
  ∀ s : State, s.rxEn = true → s.rxBusy = false →
    (∀ l1 l2 l3 l4 l5 l6 l7 l8 l9 : Bool,
      (∀ n : Nat, 1 ≤ n → n ≤ 9 →
        (rxLevels ([false, l1, l2, l3, l4, l5, l6, l7, l8, l9].take n) s).rxBusy = true ∧
        Element.same s (rxLevels ([false, l1, l2, l3, l4, l5, l6, l7, l8, l9].take n) s) .synchronizer) ∧
      rxLevels [false, l1, l2, l3, l4, l5, l6, l7, l8, l9] s =
        byteDoneOp (asmByte l1 l2 l3 l4 l5 l6 l7 l8)
          { s with rxBusy := false, rxIdx := 8, rxByte := asmByte l1 l2 l3 l4 l5 l6 l7 l8 }) ∧
    (∀ b : Byte, asmByte (slotBit b 1) (slotBit b 2) (slotBit b 3) (slotBit b 4) (slotBit b 5) (slotBit b 6) (slotBit b 7)
      (slotBit b 8) = b)

/-- CHAR is the RX_TICKs of its ten slots, and FRAME those of its eighty, in every state: while a byte is being received, in any
state of the Synchronizer, with the role disabled (R100, R81, R82, R263). CHAR, arriving while Idle, hands its byte to the
Synchronizer. DESIGN CHOICE: CHAR is RX_CHAR and FRAME is RX_FRAME (log 11). -/
def Obligations.CharHandsOverItsByte : Prop :=
  (∀ (s : State) (b : Byte),
    exec (.char b) s = runAll ((List.range 10).map fun n => .rxTick (slotBit b n)) s) ∧
  (∀ (s : State) (id : Ident),
    exec (.frame id) s =
      runAll ((List.range 80).map fun n => .rxTick (slotBit ((frameBytes id).toList.getD (n / 10) 0#8) (n % 10))) s) ∧
  (∀ (s : State) (b : Byte), s.rxEn = true → s.rxBusy = false →
    ∃ t, exec .byteDone { s with rxBusy := true, rxIdx := 8, rxByte := b } = .next t ∧
      exec (.char b) s = .next { t with rxBusy := false })

/-- FRAME, arriving while Idle in WP1, with an identity other than LOCAL_ID, ends in the mailbox unchanged: the round trip of
95_test_vectors.md S7. DESIGN CHOICE: FRAME is RX_FRAME (log 11). -/
def Obligations.FrameIsDelivered : Prop :=
  ∀ (s : State) (id : Ident), s.rxEn = true → s.rxBusy = false → s.syState = .wp1 → id ≠ s.cfg.localId →
    exec (.frame id) s = .next
      { s with
        rxIdx := 8, rxByte := id.extractLsb' 40 8, plIdx := 5,
        pl := #v[id.extractLsb' 0 8, id.extractLsb' 8 8, id.extractLsb' 16 8, id.extractLsb' 24 8, id.extractLsb' 32 8,
          id.extractLsb' 40 8],
        mbSlot := id, mbReady := true }

/-- The eighty RX ticks of RX_FRAME LOCAL_ID, from Idle in WP1, leave the mailbox exactly as it was (R192). -/
def Obligations.SelfSuppression : Prop :=
  ∀ s : State, s.rxBusy = false → s.syState = .wp1 →
    (rxFrame s.cfg.localId s).mbReady = s.mbReady ∧ (rxFrame s.cfg.localId s).mbSlot = s.mbSlot ∧
    rxFrame s.cfg.localId s = rxLevels (frameSlots s.cfg.localId) s ∧ (frameSlots s.cfg.localId).length = 80

/-- From WP1, bytes none of which is 0x5A leave the Synchronizer in WP1 after every one; a prefix that ends in 0x5A does not
(R174). -/
def Obligations.ResyncUnderNoise : Prop :=
  ∀ (s : State) (bs : List Byte), s.syState = .wp1 → (∀ b ∈ bs, b ≠ 0x5A#8) →
    (∀ n : Nat, (bytesDone (bs.take n) s).syState = .wp1) ∧
    (bytesDone (bs ++ [0x5A#8]) s).syState = .wp2 ∧
    (bytesDone (bs ++ [0x5A#8, 0x54#8]) s).syState = .col

/-- A frame is emitted when, and only when, the completed bytes hold 0x5A received in WP1, 0x54, then six bytes of any value
(R173). From WP1: BYTE_DONE stands before an emission (COL, index 5) exactly after such a 0x5A, 0x54 and five bytes; a sixth byte
ends in WP1 and delivers their identity, or drops it if it is LOCAL_ID; a byte that changes the mailbox is such a sixth byte. A
run of `n` bytes 0x5A from WP1, then 0x54, begins a payload exactly where `n` is odd. -/
def Obligations.OddRunsOfPreambleSynchronise : Prop :=
  (∀ (s : State) (bs : List Byte), s.syState = .wp1 →
    ((bytesDone bs s).syState = .col ∧ (bytesDone bs s).plIdx.val = 5 ↔
      ∃ pre six, bs = pre ++ 0x5A#8 :: 0x54#8 :: six ∧ six.length = 5 ∧ (bytesDone pre s).syState = .wp1)) ∧
  (∀ (s : State) (pre six : List Byte) (id : Ident), (bytesDone pre s).syState = .wp1 → six.length = 6 →
    (∀ k : Fin 6, some (id.extractLsb' (8 * k.val) 8) = six[k.val]?) →
    let t := bytesDone (pre ++ 0x5A#8 :: 0x54#8 :: six) s
    t.syState = .wp1 ∧
    (id ≠ s.cfg.localId → t.mbReady = true ∧ t.mbSlot = id) ∧
    (id = s.cfg.localId → t.mbReady = (bytesDone pre s).mbReady ∧ t.mbSlot = (bytesDone pre s).mbSlot)) ∧
  (∀ (s : State) (bs : List Byte) (b : Byte), s.syState = .wp1 →
    ¬((bytesDone (bs ++ [b]) s).mbReady = (bytesDone bs s).mbReady ∧
      (bytesDone (bs ++ [b]) s).mbSlot = (bytesDone bs s).mbSlot) →
    ∃ pre six, bs ++ [b] = pre ++ 0x5A#8 :: 0x54#8 :: six ∧ six.length = 6 ∧ (bytesDone pre s).syState = .wp1 ∧
      ∀ k : Fin 6, some ((bytesDone (bs ++ [b]) s).mbSlot.extractLsb' (8 * k.val) 8) = six[k.val]?) ∧
  (∀ (s : State) (n : Nat), s.syState = .wp1 →
    ((bytesDone (List.replicate n 0x5A#8 ++ [0x54#8]) s).syState = .col ↔ n % 2 = 1))

/-- A payload cut after `k < 6` bytes stays in COL at index `k`, and the next `6 - k` bytes, from whatever source, fill it: that
identity is forwarded, or dropped if it is LOCAL_ID; a whole frame that arrives next gives its preamble and first bytes to it,
and the rest of that frame delivers nothing (R266). DESIGN CHOICE: FRAME is RX_FRAME (log 11). -/
def Obligations.TruncatedFramePoisonsTheNext : Prop :=
  (∀ (s : State) (bs : List Byte), s.syState = .col → s.plIdx.val + bs.length < 6 →
    (bytesDone bs s).syState = .col ∧ (bytesDone bs s).plIdx.val = s.plIdx.val + bs.length ∧
    (bytesDone bs s).mbReady = s.mbReady ∧ (bytesDone bs s).mbSlot = s.mbSlot) ∧
  (∀ (s : State) (bs : List Byte) (filled : Ident), s.syState = .col → s.plIdx.val + bs.length = 6 →
    (∀ j : Fin 6, some (filled.extractLsb' (8 * j.val) 8) =
      if j.val < s.plIdx.val then some s.pl[j.val] else bs[j.val - s.plIdx.val]?) →
    (bytesDone bs s).syState = .wp1 ∧
    (filled ≠ s.cfg.localId → (bytesDone bs s).mbReady = true ∧ (bytesDone bs s).mbSlot = filled) ∧
    (filled = s.cfg.localId → (bytesDone bs s).mbReady = s.mbReady ∧ (bytesDone bs s).mbSlot = s.mbSlot)) ∧
  (∀ (s t : State) (id filled : Ident), s.rxEn = true → s.rxBusy = false → s.syState = .col →
    (∀ j : Fin 6, some (filled.extractLsb' (8 * j.val) 8) =
      if j.val < s.plIdx.val then some s.pl[j.val]
      else [0x5A#8, 0x54#8, id.extractLsb' 0 8, id.extractLsb' 8 8, id.extractLsb' 16 8, id.extractLsb' 24 8][
        j.val - s.plIdx.val]?) →
    exec (.frame id) s = .next t →
    (filled ≠ s.cfg.localId → t.mbReady = true ∧ t.mbSlot = filled) ∧
    (filled = s.cfg.localId → t.mbReady = s.mbReady ∧ t.mbSlot = s.mbSlot))

/-- MB_READ answers the identity of the last MB_WRITE since the last read, if there was one, and none otherwise; so of two
writes before one read only the second survives (R203). -/
def Obligations.MailboxKeepsTheLastWrite : Prop :=
  ∀ (s : State) (ops : List (Option Ident)), s.mbReady = false →
    ∃ u, exec .mbRead
        (ops.foldl (fun t o => match o with | some id => putMailbox id t | none => readMailbox t) s) = .next u ∧
      u.readResp = some (ops.getLast?.join) ∧ u.mbReady = false

/-! ## Frames transmitted -/

/-- After an accepted SEND, TX tick `n + 1` writes `FrameEnv(id)[n]` for `n` = 0 .. 79 with busy still 1, and tick 81 writes 0
and clears busy, leaving the position at (8, 0) and the frame (R134, R33). In a run in which both clocks are fair every
transmission ends, and without RESET it takes exactly 81 TX_TICKs from its start (R119). -/
def Obligations.TransmissionIsEightyOneTicks : Prop :=
  (∀ (s t : State) (id : Ident), s.txEn = true → s.txBusy = false → exec (.send id) s = .next t →
    (∀ n : Nat, n < 80 → some (txTicks (n + 1) t).txEnv = (frameEnv id)[n]? ∧ (txTicks (n + 1) t).txBusy = true) ∧
    txTicks 81 t = { t with txEnv := false, txBusy := false, txByte := 8, txBit := 0 }) ∧
  (∀ r : Run, FairClocks r → ∀ n, ∃ m, n ≤ m ∧ (r.state m).txBusy = false) ∧
  (∀ (r : Run) (n k : Nat), (r.state n).txByte = 0 → (r.state n).txBit = 0 →
    (∀ j, j < k → (r.state (n + j)).txBusy = true ∧ resets (r.entry (n + j)) = false) → (r.state (n + k)).txBusy = false →
    0 < k → txTicksIn r n k = 81)

/-- While a transmission runs, no row but TX_TICK's own, the BC_CLK that performs it, and RESET writes the transmit state
(R134, R137, R138, R74). -/
def Obligations.TransmissionIsExclusive : Prop :=
  ∀ (s t : State) (i : Instr), s.txBusy = true → transmits i = false → i ≠ .reset → exec i s = .next t →
    t.txBusy = s.txBusy ∧ t.txByte = s.txByte ∧ t.txBit = s.txBit ∧ t.txFrame = s.txFrame ∧ t.txEnv = s.txEnv ∧
    (∀ id, i = .send id → t.sendResp = some false)

/-- IVL, accepted, leaves what SEND and 81 TX_TICKs leave: the two backends agree (R139). DESIGN CHOICE: IVL is one REPLAY
transmission (log 12). -/
def Obligations.ReplayEqualsTicks : Prop :=
  ∀ (s : State) (id : Ident), s.txEn = true → s.txBusy = false →
    exec (.ivl id) s = .next
      { s with txFrame := frameBytes id, txByte := 8, txBit := 0, txEnv := false, txCnt := 0, sendResp := some true } ∧
    ∃ t, exec (.send id) s = .next t ∧ exec (.ivl id) s = .next (txRun t)

/-- `Intervals(id)` replays `FrameEnv(id)`: every mark and every space at least one bit period, eighty in all; 21 pairs for the
identity 01 .. 06 (R88). -/
def Obligations.IntervalsReplayTheFrame : Prop :=
  (∀ id : Ident, replayLevels (intervals id) = frameEnv id ∧ (∀ p ∈ intervals id, 1 ≤ p.1 ∧ 1 ≤ p.2) ∧
    ((intervals id).map fun p => p.1 + p.2).sum = 80) ∧
  (intervals 0x060504030201#48).length = 21

/-- A device that sends its own identity and hears itself slot by slot delivers nothing, and ends its transmission (R192, R100,
trace P3 of 95_test_vectors.md). -/
def Obligations.LoopbackIsSuppressed : Prop :=
  ∀ (s t : State), s.rxEn = true → s.rxBusy = false → s.syState = .wp1 → s.txEn = true → s.txBusy = false →
    exec (.send s.cfg.localId) s = .next t →
    (loopRun t).mbReady = s.mbReady ∧ (loopRun t).mbSlot = s.mbSlot ∧ (loopRun t).txBusy = false ∧
    (loopRun t).txEnv = false ∧ (loopRun t).syState = .wp1 ∧ (loopRun t).rxBusy = false

/-! ## The clocked realisation -/

/-- While a BitClock runs without interruption from its BC_START, it is due to tick at edge number `m` exactly where BIT_DIV
divides `m`, whatever the other operations at those edges (R115). -/
def Obligations.PeriodLaw : Prop :=
  ∀ (s t : State) (es : List (BitVec 80)), s.Inv → noReset es → AfterEdges s es t →
    (s.rxEn = true → s.rxCnt = 0 → (rxTickDue t = true ↔ (es.length + 1) % s.cfg.bitDiv = 0)) ∧
    (s.txBusy = true → s.txCnt = 0 → (∀ n u, n ≤ es.length → AfterEdges s (es.take n) u → u.txBusy = true) →
      (txTickDue t = true ↔ (es.length + 1) % s.cfg.bitDiv = 0))

/-- Every list of edges runs to its end, from any state of the invariant (R226); and every endless run of edges is fair to both
clocks, so the timeless view admits it (R119). -/
def Obligations.EdgesAlwaysRun : Prop :=
  (∀ (s : State) (es : List (BitVec 80)), s.Inv → ∃ t, AfterEdges s es t ∧ t.Inv) ∧
  (∀ r : Run, (r.state 0).Inv → (∀ n, (r.entry n).fmt = .clk) → FairClocks r)

/-- The slots on the wire: from a SEND accepted at edge 0, after `m` edges the envelope is 0 before BIT_DIV, slot `n` from
`(n+1) BIT_DIV` to `(n+2) BIT_DIV`, and busy falls at edge 81 BIT_DIV; tick `k` is at edge `k BIT_DIV` (R135). -/
def Obligations.SlotsOnTheWire : Prop :=
  ∀ (s s1 t : State) (id : Ident) (es : List (BitVec 80)), s.Inv → s.txEn = true → s.txBusy = false →
    exec (.send id) s = .next s1 → noReset es → AfterEdges s1 es t →
    (es.length < s.cfg.bitDiv → t.txEnv = false) ∧
    (∀ n : Nat, n < 80 → (n + 1) * s.cfg.bitDiv ≤ es.length → es.length < (n + 2) * s.cfg.bitDiv →
      some t.txEnv = (frameEnv id)[n]?) ∧
    (es.length < 81 * s.cfg.bitDiv → t.txBusy = true ∧ (txTickDue t = true ↔ (es.length + 1) % s.cfg.bitDiv = 0)) ∧
    (es.length = 81 * s.cfg.bitDiv → t.txBusy = false ∧ t.txEnv = false)

/-- The coincidences of R229, at a `clk` edge and in a timeless step of several operations: MB_READ with a mailbox write reads the
old content and loses nothing; SEND with the last TX tick is rejected; SEND with INIT_TX is rejected. In a timeless step the
tick bits and operands are the entry's own (log 8), and a tick with the SEND or INIT_RX that starts its clock is not performed
(log 23); at a `clk` edge StartOverridesTheCount says so. -/
def Obligations.EdgeCoincidences : Prop :=
  (∀ (s : State) (bits : BitVec 80) (rest : List Code), launchable s = true → s.trace = ⟨.clk, bits⟩ :: rest →
    evRst bits = false →
    (evMbRd bits = true → rxTickDue s = true → s.rxBusy = true → s.rxIdx.val = 8 → s.syState = .col → s.plIdx.val = 5 →
      payloadIdent s.pl s.rxByte ≠ s.cfg.localId →
      ∃ t, step s = .next t ∧ t.readResp = some (if s.mbReady then some s.mbSlot else none) ∧ t.mbReady = true ∧
        t.mbSlot = payloadIdent s.pl s.rxByte) ∧
    (evSendReq bits = true → s.txEn = true → txTickDue s = true → s.txByte.val = 8 →
      ∃ t, step s = .next t ∧ t.sendResp = some false ∧ t.txBusy = false ∧ t.txFrame = s.txFrame) ∧
    (evSendReq bits = true → evInitTx bits = true → pinInitTxOk bits = true → s.txEn = false → s.txErr = false →
      s.txBusy = false →
      ∃ t, step s = .next t ∧ t.sendResp = some false ∧ t.txBusy = false ∧ t.txEn = true)) ∧
  (∀ (s : State) (bits : BitVec 80) (rest : List Code), launchable s = true → s.trace = ⟨.ev, bits⟩ :: rest →
    evRst bits = false →
    (evMbRd bits = true → evRxTick bits = true → s.rxEn = true → s.rxBusy = true → s.rxIdx.val = 8 → s.syState = .col →
      s.plIdx.val = 5 → payloadIdent s.pl s.rxByte ≠ s.cfg.localId →
      ∃ t, step s = .next t ∧ t.readResp = some (if s.mbReady then some s.mbSlot else none) ∧ t.mbReady = true ∧
        t.mbSlot = payloadIdent s.pl s.rxByte) ∧
    (evSendReq bits = true → evTxTick bits = true → s.txEn = true → s.txBusy = true → s.txByte.val = 8 →
      ∃ t, step s = .next t ∧ t.sendResp = some false ∧ t.txBusy = false ∧ t.txFrame = s.txFrame) ∧
    (evSendReq bits = true → evInitTx bits = true → pinInitTxOk bits = true → s.txEn = false → s.txErr = false →
      s.txBusy = false →
      ∃ t, step s = .next t ∧ t.sendResp = some false ∧ t.txBusy = false ∧ t.txEn = true) ∧
    (evSendReq bits = true → s.txEn = true → s.txBusy = false →
      ∃ t, step s = .next t ∧ t.sendResp = some true ∧ t.txBusy = true ∧ t.txFrame = frameBytes (pinSendId bits) ∧
        t.txByte = 0 ∧ t.txBit = 0 ∧ t.txEnv = s.txEnv) ∧
    (evInitRx bits = true → pinInitRxOk bits = true → s.rxEn = false → s.rxErr = false →
      ∃ t, step s = .next t ∧ t.rxEn = true ∧ t.rxBusy = s.rxBusy ∧ t.rxIdx = s.rxIdx ∧ t.rxByte = s.rxByte))

/-- A BC_START at an edge overrides the edge's advance of the same counter, and SEND takes the identity on the port `send_id`
(R229, R112, R21). No tick of the started clock is performed at that edge, for any BIT_DIV: an accepted SEND leaves the position
at (0, 0) and the envelope, a successful INIT_RX leaves the sampler (R229's two rows "cannot coincide"). DESIGN CHOICE: the level
on the port is the one the last ID48 drove (log 13). -/
def Obligations.StartOverridesTheCount : Prop :=
  ∀ (s : State) (bits : BitVec 80) (rest : List Code), launchable s = true → s.trace = ⟨.clk, bits⟩ :: rest →
    evRst bits = false →
    (evSendReq bits = true → s.txEn = true → s.txBusy = false →
      ∃ t, step s = .next t ∧ t.txBusy = true ∧ t.txCnt = 0 ∧ t.txFrame = frameBytes s.sendIdPort ∧ t.sendResp = some true ∧
        t.txByte = 0 ∧ t.txBit = 0 ∧ t.txEnv = s.txEnv) ∧
    (evInitRx bits = true → pinInitRxOk bits = true → s.rxEn = false → s.rxErr = false →
      ∃ t, step s = .next t ∧ t.rxEn = true ∧ t.rxCnt = 0 ∧ t.rxBusy = s.rxBusy ∧ t.rxIdx = s.rxIdx ∧ t.rxByte = s.rxByte)

/-- RESET alone is performed with `rst = 1`, whatever the other bits, in a timeless step and at a `clk` edge (R229, R250); a
transmission is cut (R252). The whole next state: at an edge the synchroniser and the carrier counter move too (log 14, log 15);
that the registers to which R50 gives `U` keep their bits is DEDUCED (log 24, unsafe). -/
def Obligations.ResetOverridesEveryRequest : Prop :=
  ∀ (s : State) (bits : BitVec 80) (rest : List Code), launchable s = true → evRst bits = true →
    (s.trace = ⟨.ev, bits⟩ :: rest → step s = .next
      { s with
        rxEn := false, txEn := false, rxErr := false, txErr := false, rxCnt := 0, txCnt := 0, rxBusy := false, rxIdx := 0,
        syState := .wp1, plIdx := 0, mbReady := false, txBusy := false, txByte := 0, txBit := 0, txEnv := false,
        sendResp := none, readResp := none, trace := rest }) ∧
    (s.trace = ⟨.clk, bits⟩ :: rest → step s = .next
      { s with
        rxEn := false, txEn := false, rxErr := false, txErr := false, rxCnt := 0, txCnt := 0, rxBusy := false, rxIdx := 0,
        syState := .wp1, plIdx := 0, mbReady := false, txBusy := false, txByte := 0, txBit := 0, txEnv := false,
        sendResp := none, readResp := none, trace := rest,
        rxMeta := BitVec.ofBool (s.rxMeta.getLsbD 0) ++ BitVec.ofBool (pinRxIn bits),
        carCnt := if s.carCnt + 1 < s.cfg.carDiv then s.carCnt + 1 else 0 })

/-- Every edge, one with `rst` too, shifts the level on `rx_in` into `rx_meta` and counts the carrier's counter modulo CAR_DIV.
DESIGN CHOICE: at an edge with `rst`, and the order against the tick (log 14, log 15). -/
def Obligations.EveryEdgeMovesTheFreeRegisters : Prop :=
  ∀ (s : State) (bits : BitVec 80) (rest : List Code), launchable s = true → s.trace = ⟨.clk, bits⟩ :: rest →
    ∃ t, step s = .next t ∧ t.rxMeta.getLsbD 0 = pinRxIn bits ∧ t.rxMeta.getLsbD 1 = s.rxMeta.getLsbD 0 ∧
      (s.carCnt + 1 < s.cfg.carDiv → t.carCnt = s.carCnt + 1) ∧ (s.carCnt + 1 = s.cfg.carDiv → t.carCnt = 0)

/-! ## The whole machine -/

/-- R40 holds of the state after RESET. -/
def Obligations.InvAtReset : Prop := State.reset.Inv

/-- Every step that answers a next state keeps the nine invariants of R40. -/
def Obligations.InvIsKeptByEveryStep : Prop := ∀ s t : State, s.Inv → step s = .next t → t.Inv

/-- In every state reachable from RESET by the operations, by any interleaving of the agents' steps, R40 holds. Its clauses that
`mb_slot` and `tx_frame` are not `U` say nothing here: every register holds a value (log 2). -/
def Obligations.InvInEveryReachableState : Prop :=
  ∀ s s0 t : State, exec .reset s = .next s0 → Reaches s0 t → t.Inv

/-- Every operation is total (R226): every row has a next state from every state, and a step of a reachable shape stops only
where the trace asks for no operation of an agent. -/
def Obligations.EveryRowIsTotal : Prop :=
  (∀ (i : Instr) (s : State), ∃ t, exec i s = .next t) ∧
  (∀ s : State, s.Inv → (∃ t, step s = .next t) ∨ step s = .refused .internalOperation ∨
    ∃ why, step s = .refused (.undecodable why))

/-- Each element is written only by the rows that are, or perform, the operations R233 names for it. Whose operations a row of the
model's own reading performs is its log's: CHAR and FRAME (log 11), IVL (log 12), ID48 and the send port (log 13), BC_CLK (log
26), the responses (log 7); that RESET leaves `mb_slot` and `tx_frame` is log 24. -/
def Obligations.EachElementHasItsWriters : Prop :=
  ∀ (e : Element) (i : Instr) (s t : State), exec i s = .next t → e.writers i = false → e.same s t

/-- RESET is the only row that clears an enable or an error flag (R23, R250). -/
def Obligations.OnlyResetClearsEnables : Prop :=
  ∀ (i : Instr) (s t : State), i ≠ .reset → exec i s = .next t →
    (s.rxEn = true → t.rxEn = true) ∧ (s.txEn = true → t.txEn = true) ∧ (s.rxErr = true → t.rxErr = true) ∧
    (s.txErr = true → t.txErr = true)

/-- No operation changes a parameter (R11). -/
def Obligations.ParametersNeverChange : Prop := ∀ s t : State, step s = .next t → t.cfg = s.cfg

/-- The response pin of SEND agrees with the response SEND gives, the pin `mb_data` shows the slot while `mb_ready = 1`, and the
emitter is driven only in a mark (R22, R36). -/
def Obligations.OutputPinsAgree : Prop :=
  ∀ (s t : State) (id : Ident),
    (exec (.send id) s = .next t → t.sendResp = some (sendOkPin false true s)) ∧
    (exec .mbRead s = .next t → t.readResp = some (if mbReadyPin s then some (mbDataPin s) else none)) ∧
    (irOutPin s = true → txEnvPin s = true) ∧
    (txEnvPin s = true → irOutPin s = carrier s)
end

