-- ==== Sys2Proof/Laws/State.lean ====
section
/-! SUPPORT. What each named update of State does to each field, so that no proof unfolds a record update. -/

namespace Sys2Proof.Machine

variable (s : State)

@[simp] theorem bcStartRx_rxEn : (bcStartRx s).rxEn = s.rxEn := rfl
@[simp] theorem bcStartRx_txEn : (bcStartRx s).txEn = s.txEn := rfl
@[simp] theorem bcStartRx_rxErr : (bcStartRx s).rxErr = s.rxErr := rfl
@[simp] theorem bcStartRx_txErr : (bcStartRx s).txErr = s.txErr := rfl
@[simp] theorem bcStartRx_rxCnt : (bcStartRx s).rxCnt = 0 := rfl
@[simp] theorem bcStartRx_txCnt : (bcStartRx s).txCnt = s.txCnt := rfl
@[simp] theorem bcStartRx_rxMeta : (bcStartRx s).rxMeta = s.rxMeta := rfl
@[simp] theorem bcStartRx_rxBusy : (bcStartRx s).rxBusy = s.rxBusy := rfl
@[simp] theorem bcStartRx_rxIdx : (bcStartRx s).rxIdx = s.rxIdx := rfl
@[simp] theorem bcStartRx_rxByte : (bcStartRx s).rxByte = s.rxByte := rfl
@[simp] theorem bcStartRx_syState : (bcStartRx s).syState = s.syState := rfl
@[simp] theorem bcStartRx_plIdx : (bcStartRx s).plIdx = s.plIdx := rfl
@[simp] theorem bcStartRx_pl : (bcStartRx s).pl = s.pl := rfl
@[simp] theorem bcStartRx_mbReady : (bcStartRx s).mbReady = s.mbReady := rfl
@[simp] theorem bcStartRx_mbSlot : (bcStartRx s).mbSlot = s.mbSlot := rfl
@[simp] theorem bcStartRx_txBusy : (bcStartRx s).txBusy = s.txBusy := rfl
@[simp] theorem bcStartRx_txByte : (bcStartRx s).txByte = s.txByte := rfl
@[simp] theorem bcStartRx_txBit : (bcStartRx s).txBit = s.txBit := rfl
@[simp] theorem bcStartRx_txFrame : (bcStartRx s).txFrame = s.txFrame := rfl
@[simp] theorem bcStartRx_txEnv : (bcStartRx s).txEnv = s.txEnv := rfl
@[simp] theorem bcStartRx_carCnt : (bcStartRx s).carCnt = s.carCnt := rfl
@[simp] theorem bcStartRx_cfg : (bcStartRx s).cfg = s.cfg := rfl
@[simp] theorem bcStartRx_sendIdPort : (bcStartRx s).sendIdPort = s.sendIdPort := rfl
@[simp] theorem bcStartRx_sendResp : (bcStartRx s).sendResp = s.sendResp := rfl
@[simp] theorem bcStartRx_readResp : (bcStartRx s).readResp = s.readResp := rfl
@[simp] theorem bcStartRx_trace : (bcStartRx s).trace = s.trace := rfl

@[simp] theorem bcStartTx_rxEn : (bcStartTx s).rxEn = s.rxEn := rfl
@[simp] theorem bcStartTx_txEn : (bcStartTx s).txEn = s.txEn := rfl
@[simp] theorem bcStartTx_rxErr : (bcStartTx s).rxErr = s.rxErr := rfl
@[simp] theorem bcStartTx_txErr : (bcStartTx s).txErr = s.txErr := rfl
@[simp] theorem bcStartTx_rxCnt : (bcStartTx s).rxCnt = s.rxCnt := rfl
@[simp] theorem bcStartTx_txCnt : (bcStartTx s).txCnt = 0 := rfl
@[simp] theorem bcStartTx_rxMeta : (bcStartTx s).rxMeta = s.rxMeta := rfl
@[simp] theorem bcStartTx_rxBusy : (bcStartTx s).rxBusy = s.rxBusy := rfl
@[simp] theorem bcStartTx_rxIdx : (bcStartTx s).rxIdx = s.rxIdx := rfl
@[simp] theorem bcStartTx_rxByte : (bcStartTx s).rxByte = s.rxByte := rfl
@[simp] theorem bcStartTx_syState : (bcStartTx s).syState = s.syState := rfl
@[simp] theorem bcStartTx_plIdx : (bcStartTx s).plIdx = s.plIdx := rfl
@[simp] theorem bcStartTx_pl : (bcStartTx s).pl = s.pl := rfl
@[simp] theorem bcStartTx_mbReady : (bcStartTx s).mbReady = s.mbReady := rfl
@[simp] theorem bcStartTx_mbSlot : (bcStartTx s).mbSlot = s.mbSlot := rfl
@[simp] theorem bcStartTx_txBusy : (bcStartTx s).txBusy = s.txBusy := rfl
@[simp] theorem bcStartTx_txByte : (bcStartTx s).txByte = s.txByte := rfl
@[simp] theorem bcStartTx_txBit : (bcStartTx s).txBit = s.txBit := rfl
@[simp] theorem bcStartTx_txFrame : (bcStartTx s).txFrame = s.txFrame := rfl
@[simp] theorem bcStartTx_txEnv : (bcStartTx s).txEnv = s.txEnv := rfl
@[simp] theorem bcStartTx_carCnt : (bcStartTx s).carCnt = s.carCnt := rfl
@[simp] theorem bcStartTx_cfg : (bcStartTx s).cfg = s.cfg := rfl
@[simp] theorem bcStartTx_sendIdPort : (bcStartTx s).sendIdPort = s.sendIdPort := rfl
@[simp] theorem bcStartTx_sendResp : (bcStartTx s).sendResp = s.sendResp := rfl
@[simp] theorem bcStartTx_readResp : (bcStartTx s).readResp = s.readResp := rfl
@[simp] theorem bcStartTx_trace : (bcStartTx s).trace = s.trace := rfl

@[simp] theorem bcStop_rxEn : (bcStop s).rxEn = s.rxEn := rfl
@[simp] theorem bcStop_txEn : (bcStop s).txEn = s.txEn := rfl
@[simp] theorem bcStop_rxErr : (bcStop s).rxErr = s.rxErr := rfl
@[simp] theorem bcStop_txErr : (bcStop s).txErr = s.txErr := rfl
@[simp] theorem bcStop_rxCnt : (bcStop s).rxCnt = s.rxCnt := rfl
@[simp] theorem bcStop_txCnt : (bcStop s).txCnt = s.txCnt := rfl
@[simp] theorem bcStop_rxMeta : (bcStop s).rxMeta = s.rxMeta := rfl
@[simp] theorem bcStop_rxBusy : (bcStop s).rxBusy = s.rxBusy := rfl
@[simp] theorem bcStop_rxIdx : (bcStop s).rxIdx = s.rxIdx := rfl
@[simp] theorem bcStop_rxByte : (bcStop s).rxByte = s.rxByte := rfl
@[simp] theorem bcStop_syState : (bcStop s).syState = s.syState := rfl
@[simp] theorem bcStop_plIdx : (bcStop s).plIdx = s.plIdx := rfl
@[simp] theorem bcStop_pl : (bcStop s).pl = s.pl := rfl
@[simp] theorem bcStop_mbReady : (bcStop s).mbReady = s.mbReady := rfl
@[simp] theorem bcStop_mbSlot : (bcStop s).mbSlot = s.mbSlot := rfl
@[simp] theorem bcStop_txBusy : (bcStop s).txBusy = s.txBusy := rfl
@[simp] theorem bcStop_txByte : (bcStop s).txByte = s.txByte := rfl
@[simp] theorem bcStop_txBit : (bcStop s).txBit = s.txBit := rfl
@[simp] theorem bcStop_txFrame : (bcStop s).txFrame = s.txFrame := rfl
@[simp] theorem bcStop_txEnv : (bcStop s).txEnv = s.txEnv := rfl
@[simp] theorem bcStop_carCnt : (bcStop s).carCnt = s.carCnt := rfl
@[simp] theorem bcStop_cfg : (bcStop s).cfg = s.cfg := rfl
@[simp] theorem bcStop_sendIdPort : (bcStop s).sendIdPort = s.sendIdPort := rfl
@[simp] theorem bcStop_sendResp : (bcStop s).sendResp = s.sendResp := rfl
@[simp] theorem bcStop_readResp : (bcStop s).readResp = s.readResp := rfl
@[simp] theorem bcStop_trace : (bcStop s).trace = s.trace := rfl

@[simp] theorem bcCount_rxEn : (bcCount s).rxEn = s.rxEn := rfl
@[simp] theorem bcCount_txEn : (bcCount s).txEn = s.txEn := rfl
@[simp] theorem bcCount_rxErr : (bcCount s).rxErr = s.rxErr := rfl
@[simp] theorem bcCount_txErr : (bcCount s).txErr = s.txErr := rfl
@[simp] theorem bcCount_rxCnt : (bcCount s).rxCnt = nextCount s.cfg (rxRuns s) s.rxCnt := rfl
@[simp] theorem bcCount_txCnt : (bcCount s).txCnt = nextCount s.cfg (txRuns s) s.txCnt := rfl
@[simp] theorem bcCount_rxMeta : (bcCount s).rxMeta = s.rxMeta := rfl
@[simp] theorem bcCount_rxBusy : (bcCount s).rxBusy = s.rxBusy := rfl
@[simp] theorem bcCount_rxIdx : (bcCount s).rxIdx = s.rxIdx := rfl
@[simp] theorem bcCount_rxByte : (bcCount s).rxByte = s.rxByte := rfl
@[simp] theorem bcCount_syState : (bcCount s).syState = s.syState := rfl
@[simp] theorem bcCount_plIdx : (bcCount s).plIdx = s.plIdx := rfl
@[simp] theorem bcCount_pl : (bcCount s).pl = s.pl := rfl
@[simp] theorem bcCount_mbReady : (bcCount s).mbReady = s.mbReady := rfl
@[simp] theorem bcCount_mbSlot : (bcCount s).mbSlot = s.mbSlot := rfl
@[simp] theorem bcCount_txBusy : (bcCount s).txBusy = s.txBusy := rfl
@[simp] theorem bcCount_txByte : (bcCount s).txByte = s.txByte := rfl
@[simp] theorem bcCount_txBit : (bcCount s).txBit = s.txBit := rfl
@[simp] theorem bcCount_txFrame : (bcCount s).txFrame = s.txFrame := rfl
@[simp] theorem bcCount_txEnv : (bcCount s).txEnv = s.txEnv := rfl
@[simp] theorem bcCount_carCnt : (bcCount s).carCnt = s.carCnt := rfl
@[simp] theorem bcCount_cfg : (bcCount s).cfg = s.cfg := rfl
@[simp] theorem bcCount_sendIdPort : (bcCount s).sendIdPort = s.sendIdPort := rfl
@[simp] theorem bcCount_sendResp : (bcCount s).sendResp = s.sendResp := rfl
@[simp] theorem bcCount_readResp : (bcCount s).readResp = s.readResp := rfl
@[simp] theorem bcCount_trace : (bcCount s).trace = s.trace := rfl

@[simp] theorem resetAll_rxEn : (resetAll s).rxEn = false := rfl
@[simp] theorem resetAll_txEn : (resetAll s).txEn = false := rfl
@[simp] theorem resetAll_rxErr : (resetAll s).rxErr = false := rfl
@[simp] theorem resetAll_txErr : (resetAll s).txErr = false := rfl
@[simp] theorem resetAll_rxCnt : (resetAll s).rxCnt = 0 := rfl
@[simp] theorem resetAll_txCnt : (resetAll s).txCnt = 0 := rfl
@[simp] theorem resetAll_rxMeta : (resetAll s).rxMeta = s.rxMeta := rfl
@[simp] theorem resetAll_rxBusy : (resetAll s).rxBusy = false := rfl
@[simp] theorem resetAll_rxIdx : (resetAll s).rxIdx = 0 := rfl
@[simp] theorem resetAll_rxByte : (resetAll s).rxByte = s.rxByte := rfl
@[simp] theorem resetAll_syState : (resetAll s).syState = .wp1 := rfl
@[simp] theorem resetAll_plIdx : (resetAll s).plIdx = 0 := rfl
@[simp] theorem resetAll_pl : (resetAll s).pl = s.pl := rfl
@[simp] theorem resetAll_mbReady : (resetAll s).mbReady = false := rfl
@[simp] theorem resetAll_mbSlot : (resetAll s).mbSlot = s.mbSlot := rfl
@[simp] theorem resetAll_txBusy : (resetAll s).txBusy = false := rfl
@[simp] theorem resetAll_txByte : (resetAll s).txByte = 0 := rfl
@[simp] theorem resetAll_txBit : (resetAll s).txBit = 0 := rfl
@[simp] theorem resetAll_txFrame : (resetAll s).txFrame = s.txFrame := rfl
@[simp] theorem resetAll_txEnv : (resetAll s).txEnv = false := rfl
@[simp] theorem resetAll_carCnt : (resetAll s).carCnt = s.carCnt := rfl
@[simp] theorem resetAll_cfg : (resetAll s).cfg = s.cfg := rfl
@[simp] theorem resetAll_sendIdPort : (resetAll s).sendIdPort = s.sendIdPort := rfl
@[simp] theorem resetAll_sendResp : (resetAll s).sendResp = s.sendResp := rfl
@[simp] theorem resetAll_readResp : (resetAll s).readResp = s.readResp := rfl
@[simp] theorem resetAll_trace : (resetAll s).trace = s.trace := rfl

@[simp] theorem putMailbox_rxEn (id : Ident) : (putMailbox id s).rxEn = s.rxEn := rfl
@[simp] theorem putMailbox_txEn (id : Ident) : (putMailbox id s).txEn = s.txEn := rfl
@[simp] theorem putMailbox_rxErr (id : Ident) : (putMailbox id s).rxErr = s.rxErr := rfl
@[simp] theorem putMailbox_txErr (id : Ident) : (putMailbox id s).txErr = s.txErr := rfl
@[simp] theorem putMailbox_rxCnt (id : Ident) : (putMailbox id s).rxCnt = s.rxCnt := rfl
@[simp] theorem putMailbox_txCnt (id : Ident) : (putMailbox id s).txCnt = s.txCnt := rfl
@[simp] theorem putMailbox_rxMeta (id : Ident) : (putMailbox id s).rxMeta = s.rxMeta := rfl
@[simp] theorem putMailbox_rxBusy (id : Ident) : (putMailbox id s).rxBusy = s.rxBusy := rfl
@[simp] theorem putMailbox_rxIdx (id : Ident) : (putMailbox id s).rxIdx = s.rxIdx := rfl
@[simp] theorem putMailbox_rxByte (id : Ident) : (putMailbox id s).rxByte = s.rxByte := rfl
@[simp] theorem putMailbox_syState (id : Ident) : (putMailbox id s).syState = s.syState := rfl
@[simp] theorem putMailbox_plIdx (id : Ident) : (putMailbox id s).plIdx = s.plIdx := rfl
@[simp] theorem putMailbox_pl (id : Ident) : (putMailbox id s).pl = s.pl := rfl
@[simp] theorem putMailbox_mbReady (id : Ident) : (putMailbox id s).mbReady = true := rfl
@[simp] theorem putMailbox_mbSlot (id : Ident) : (putMailbox id s).mbSlot = id := rfl
@[simp] theorem putMailbox_txBusy (id : Ident) : (putMailbox id s).txBusy = s.txBusy := rfl
@[simp] theorem putMailbox_txByte (id : Ident) : (putMailbox id s).txByte = s.txByte := rfl
@[simp] theorem putMailbox_txBit (id : Ident) : (putMailbox id s).txBit = s.txBit := rfl
@[simp] theorem putMailbox_txFrame (id : Ident) : (putMailbox id s).txFrame = s.txFrame := rfl
@[simp] theorem putMailbox_txEnv (id : Ident) : (putMailbox id s).txEnv = s.txEnv := rfl
@[simp] theorem putMailbox_carCnt (id : Ident) : (putMailbox id s).carCnt = s.carCnt := rfl
@[simp] theorem putMailbox_cfg (id : Ident) : (putMailbox id s).cfg = s.cfg := rfl
@[simp] theorem putMailbox_sendIdPort (id : Ident) : (putMailbox id s).sendIdPort = s.sendIdPort := rfl
@[simp] theorem putMailbox_sendResp (id : Ident) : (putMailbox id s).sendResp = s.sendResp := rfl
@[simp] theorem putMailbox_readResp (id : Ident) : (putMailbox id s).readResp = s.readResp := rfl
@[simp] theorem putMailbox_trace (id : Ident) : (putMailbox id s).trace = s.trace := rfl

@[simp] theorem respondRead_rxEn (r : Option Ident) : (respondRead r s).rxEn = s.rxEn := rfl
@[simp] theorem respondRead_txEn (r : Option Ident) : (respondRead r s).txEn = s.txEn := rfl
@[simp] theorem respondRead_rxErr (r : Option Ident) : (respondRead r s).rxErr = s.rxErr := rfl
@[simp] theorem respondRead_txErr (r : Option Ident) : (respondRead r s).txErr = s.txErr := rfl
@[simp] theorem respondRead_rxCnt (r : Option Ident) : (respondRead r s).rxCnt = s.rxCnt := rfl
@[simp] theorem respondRead_txCnt (r : Option Ident) : (respondRead r s).txCnt = s.txCnt := rfl
@[simp] theorem respondRead_rxMeta (r : Option Ident) : (respondRead r s).rxMeta = s.rxMeta := rfl
@[simp] theorem respondRead_rxBusy (r : Option Ident) : (respondRead r s).rxBusy = s.rxBusy := rfl
@[simp] theorem respondRead_rxIdx (r : Option Ident) : (respondRead r s).rxIdx = s.rxIdx := rfl
@[simp] theorem respondRead_rxByte (r : Option Ident) : (respondRead r s).rxByte = s.rxByte := rfl
@[simp] theorem respondRead_syState (r : Option Ident) : (respondRead r s).syState = s.syState := rfl
@[simp] theorem respondRead_plIdx (r : Option Ident) : (respondRead r s).plIdx = s.plIdx := rfl
@[simp] theorem respondRead_pl (r : Option Ident) : (respondRead r s).pl = s.pl := rfl
@[simp] theorem respondRead_mbReady (r : Option Ident) : (respondRead r s).mbReady = s.mbReady := rfl
@[simp] theorem respondRead_mbSlot (r : Option Ident) : (respondRead r s).mbSlot = s.mbSlot := rfl
@[simp] theorem respondRead_txBusy (r : Option Ident) : (respondRead r s).txBusy = s.txBusy := rfl
@[simp] theorem respondRead_txByte (r : Option Ident) : (respondRead r s).txByte = s.txByte := rfl
@[simp] theorem respondRead_txBit (r : Option Ident) : (respondRead r s).txBit = s.txBit := rfl
@[simp] theorem respondRead_txFrame (r : Option Ident) : (respondRead r s).txFrame = s.txFrame := rfl
@[simp] theorem respondRead_txEnv (r : Option Ident) : (respondRead r s).txEnv = s.txEnv := rfl
@[simp] theorem respondRead_carCnt (r : Option Ident) : (respondRead r s).carCnt = s.carCnt := rfl
@[simp] theorem respondRead_cfg (r : Option Ident) : (respondRead r s).cfg = s.cfg := rfl
@[simp] theorem respondRead_sendIdPort (r : Option Ident) : (respondRead r s).sendIdPort = s.sendIdPort := rfl
@[simp] theorem respondRead_sendResp (r : Option Ident) : (respondRead r s).sendResp = s.sendResp := rfl
@[simp] theorem respondRead_readResp (r : Option Ident) : (respondRead r s).readResp = some r := rfl
@[simp] theorem respondRead_trace (r : Option Ident) : (respondRead r s).trace = s.trace := rfl

@[simp] theorem respondSend_rxEn (r : Bool) : (respondSend r s).rxEn = s.rxEn := rfl
@[simp] theorem respondSend_txEn (r : Bool) : (respondSend r s).txEn = s.txEn := rfl
@[simp] theorem respondSend_rxErr (r : Bool) : (respondSend r s).rxErr = s.rxErr := rfl
@[simp] theorem respondSend_txErr (r : Bool) : (respondSend r s).txErr = s.txErr := rfl
@[simp] theorem respondSend_rxCnt (r : Bool) : (respondSend r s).rxCnt = s.rxCnt := rfl
@[simp] theorem respondSend_txCnt (r : Bool) : (respondSend r s).txCnt = s.txCnt := rfl
@[simp] theorem respondSend_rxMeta (r : Bool) : (respondSend r s).rxMeta = s.rxMeta := rfl
@[simp] theorem respondSend_rxBusy (r : Bool) : (respondSend r s).rxBusy = s.rxBusy := rfl
@[simp] theorem respondSend_rxIdx (r : Bool) : (respondSend r s).rxIdx = s.rxIdx := rfl
@[simp] theorem respondSend_rxByte (r : Bool) : (respondSend r s).rxByte = s.rxByte := rfl
@[simp] theorem respondSend_syState (r : Bool) : (respondSend r s).syState = s.syState := rfl
@[simp] theorem respondSend_plIdx (r : Bool) : (respondSend r s).plIdx = s.plIdx := rfl
@[simp] theorem respondSend_pl (r : Bool) : (respondSend r s).pl = s.pl := rfl
@[simp] theorem respondSend_mbReady (r : Bool) : (respondSend r s).mbReady = s.mbReady := rfl
@[simp] theorem respondSend_mbSlot (r : Bool) : (respondSend r s).mbSlot = s.mbSlot := rfl
@[simp] theorem respondSend_txBusy (r : Bool) : (respondSend r s).txBusy = s.txBusy := rfl
@[simp] theorem respondSend_txByte (r : Bool) : (respondSend r s).txByte = s.txByte := rfl
@[simp] theorem respondSend_txBit (r : Bool) : (respondSend r s).txBit = s.txBit := rfl
@[simp] theorem respondSend_txFrame (r : Bool) : (respondSend r s).txFrame = s.txFrame := rfl
@[simp] theorem respondSend_txEnv (r : Bool) : (respondSend r s).txEnv = s.txEnv := rfl
@[simp] theorem respondSend_carCnt (r : Bool) : (respondSend r s).carCnt = s.carCnt := rfl
@[simp] theorem respondSend_cfg (r : Bool) : (respondSend r s).cfg = s.cfg := rfl
@[simp] theorem respondSend_sendIdPort (r : Bool) : (respondSend r s).sendIdPort = s.sendIdPort := rfl
@[simp] theorem respondSend_sendResp (r : Bool) : (respondSend r s).sendResp = some r := rfl
@[simp] theorem respondSend_readResp (r : Bool) : (respondSend r s).readResp = s.readResp := rfl
@[simp] theorem respondSend_trace (r : Bool) : (respondSend r s).trace = s.trace := rfl

@[simp] theorem storePayload_rxEn (b : Byte) : (storePayload b s).rxEn = s.rxEn := rfl
@[simp] theorem storePayload_txEn (b : Byte) : (storePayload b s).txEn = s.txEn := rfl
@[simp] theorem storePayload_rxErr (b : Byte) : (storePayload b s).rxErr = s.rxErr := rfl
@[simp] theorem storePayload_txErr (b : Byte) : (storePayload b s).txErr = s.txErr := rfl
@[simp] theorem storePayload_rxCnt (b : Byte) : (storePayload b s).rxCnt = s.rxCnt := rfl
@[simp] theorem storePayload_txCnt (b : Byte) : (storePayload b s).txCnt = s.txCnt := rfl
@[simp] theorem storePayload_rxMeta (b : Byte) : (storePayload b s).rxMeta = s.rxMeta := rfl
@[simp] theorem storePayload_rxBusy (b : Byte) : (storePayload b s).rxBusy = s.rxBusy := rfl
@[simp] theorem storePayload_rxIdx (b : Byte) : (storePayload b s).rxIdx = s.rxIdx := rfl
@[simp] theorem storePayload_rxByte (b : Byte) : (storePayload b s).rxByte = s.rxByte := rfl
@[simp] theorem storePayload_syState (b : Byte) : (storePayload b s).syState = s.syState := rfl
@[simp] theorem storePayload_plIdx (b : Byte) : (storePayload b s).plIdx = s.plIdx := rfl
@[simp] theorem storePayload_pl (b : Byte) : (storePayload b s).pl = s.pl.set s.plIdx.val b s.plIdx.isLt := rfl
@[simp] theorem storePayload_mbReady (b : Byte) : (storePayload b s).mbReady = s.mbReady := rfl
@[simp] theorem storePayload_mbSlot (b : Byte) : (storePayload b s).mbSlot = s.mbSlot := rfl
@[simp] theorem storePayload_txBusy (b : Byte) : (storePayload b s).txBusy = s.txBusy := rfl
@[simp] theorem storePayload_txByte (b : Byte) : (storePayload b s).txByte = s.txByte := rfl
@[simp] theorem storePayload_txBit (b : Byte) : (storePayload b s).txBit = s.txBit := rfl
@[simp] theorem storePayload_txFrame (b : Byte) : (storePayload b s).txFrame = s.txFrame := rfl
@[simp] theorem storePayload_txEnv (b : Byte) : (storePayload b s).txEnv = s.txEnv := rfl
@[simp] theorem storePayload_carCnt (b : Byte) : (storePayload b s).carCnt = s.carCnt := rfl
@[simp] theorem storePayload_cfg (b : Byte) : (storePayload b s).cfg = s.cfg := rfl
@[simp] theorem storePayload_sendIdPort (b : Byte) : (storePayload b s).sendIdPort = s.sendIdPort := rfl
@[simp] theorem storePayload_sendResp (b : Byte) : (storePayload b s).sendResp = s.sendResp := rfl
@[simp] theorem storePayload_readResp (b : Byte) : (storePayload b s).readResp = s.readResp := rfl
@[simp] theorem storePayload_trace (b : Byte) : (storePayload b s).trace = s.trace := rfl

@[simp] theorem startChar_rxEn : (startChar s).rxEn = s.rxEn := rfl
@[simp] theorem startChar_txEn : (startChar s).txEn = s.txEn := rfl
@[simp] theorem startChar_rxErr : (startChar s).rxErr = s.rxErr := rfl
@[simp] theorem startChar_txErr : (startChar s).txErr = s.txErr := rfl
@[simp] theorem startChar_rxCnt : (startChar s).rxCnt = s.rxCnt := rfl
@[simp] theorem startChar_txCnt : (startChar s).txCnt = s.txCnt := rfl
@[simp] theorem startChar_rxMeta : (startChar s).rxMeta = s.rxMeta := rfl
@[simp] theorem startChar_rxBusy : (startChar s).rxBusy = true := rfl
@[simp] theorem startChar_rxIdx : (startChar s).rxIdx = 0 := rfl
@[simp] theorem startChar_rxByte : (startChar s).rxByte = 0#8 := rfl
@[simp] theorem startChar_syState : (startChar s).syState = s.syState := rfl
@[simp] theorem startChar_plIdx : (startChar s).plIdx = s.plIdx := rfl
@[simp] theorem startChar_pl : (startChar s).pl = s.pl := rfl
@[simp] theorem startChar_mbReady : (startChar s).mbReady = s.mbReady := rfl
@[simp] theorem startChar_mbSlot : (startChar s).mbSlot = s.mbSlot := rfl
@[simp] theorem startChar_txBusy : (startChar s).txBusy = s.txBusy := rfl
@[simp] theorem startChar_txByte : (startChar s).txByte = s.txByte := rfl
@[simp] theorem startChar_txBit : (startChar s).txBit = s.txBit := rfl
@[simp] theorem startChar_txFrame : (startChar s).txFrame = s.txFrame := rfl
@[simp] theorem startChar_txEnv : (startChar s).txEnv = s.txEnv := rfl
@[simp] theorem startChar_carCnt : (startChar s).carCnt = s.carCnt := rfl
@[simp] theorem startChar_cfg : (startChar s).cfg = s.cfg := rfl
@[simp] theorem startChar_sendIdPort : (startChar s).sendIdPort = s.sendIdPort := rfl
@[simp] theorem startChar_sendResp : (startChar s).sendResp = s.sendResp := rfl
@[simp] theorem startChar_readResp : (startChar s).readResp = s.readResp := rfl
@[simp] theorem startChar_trace : (startChar s).trace = s.trace := rfl

@[simp] theorem endTx_rxEn : (endTx s).rxEn = s.rxEn := rfl
@[simp] theorem endTx_txEn : (endTx s).txEn = s.txEn := rfl
@[simp] theorem endTx_rxErr : (endTx s).rxErr = s.rxErr := rfl
@[simp] theorem endTx_txErr : (endTx s).txErr = s.txErr := rfl
@[simp] theorem endTx_rxCnt : (endTx s).rxCnt = s.rxCnt := rfl
@[simp] theorem endTx_txCnt : (endTx s).txCnt = s.txCnt := rfl
@[simp] theorem endTx_rxMeta : (endTx s).rxMeta = s.rxMeta := rfl
@[simp] theorem endTx_rxBusy : (endTx s).rxBusy = s.rxBusy := rfl
@[simp] theorem endTx_rxIdx : (endTx s).rxIdx = s.rxIdx := rfl
@[simp] theorem endTx_rxByte : (endTx s).rxByte = s.rxByte := rfl
@[simp] theorem endTx_syState : (endTx s).syState = s.syState := rfl
@[simp] theorem endTx_plIdx : (endTx s).plIdx = s.plIdx := rfl
@[simp] theorem endTx_pl : (endTx s).pl = s.pl := rfl
@[simp] theorem endTx_mbReady : (endTx s).mbReady = s.mbReady := rfl
@[simp] theorem endTx_mbSlot : (endTx s).mbSlot = s.mbSlot := rfl
@[simp] theorem endTx_txBusy : (endTx s).txBusy = false := rfl
@[simp] theorem endTx_txByte : (endTx s).txByte = s.txByte := rfl
@[simp] theorem endTx_txBit : (endTx s).txBit = s.txBit := rfl
@[simp] theorem endTx_txFrame : (endTx s).txFrame = s.txFrame := rfl
@[simp] theorem endTx_txEnv : (endTx s).txEnv = false := rfl
@[simp] theorem endTx_carCnt : (endTx s).carCnt = s.carCnt := rfl
@[simp] theorem endTx_cfg : (endTx s).cfg = s.cfg := rfl
@[simp] theorem endTx_sendIdPort : (endTx s).sendIdPort = s.sendIdPort := rfl
@[simp] theorem endTx_sendResp : (endTx s).sendResp = s.sendResp := rfl
@[simp] theorem endTx_readResp : (endTx s).readResp = s.readResp := rfl
@[simp] theorem endTx_trace : (endTx s).trace = s.trace := rfl

@[simp] theorem acceptSend_rxEn (id : Ident) : (acceptSend id s).rxEn = s.rxEn := rfl
@[simp] theorem acceptSend_txEn (id : Ident) : (acceptSend id s).txEn = s.txEn := rfl
@[simp] theorem acceptSend_rxErr (id : Ident) : (acceptSend id s).rxErr = s.rxErr := rfl
@[simp] theorem acceptSend_txErr (id : Ident) : (acceptSend id s).txErr = s.txErr := rfl
@[simp] theorem acceptSend_rxCnt (id : Ident) : (acceptSend id s).rxCnt = s.rxCnt := rfl
@[simp] theorem acceptSend_txCnt (id : Ident) : (acceptSend id s).txCnt = 0 := rfl
@[simp] theorem acceptSend_rxMeta (id : Ident) : (acceptSend id s).rxMeta = s.rxMeta := rfl
@[simp] theorem acceptSend_rxBusy (id : Ident) : (acceptSend id s).rxBusy = s.rxBusy := rfl
@[simp] theorem acceptSend_rxIdx (id : Ident) : (acceptSend id s).rxIdx = s.rxIdx := rfl
@[simp] theorem acceptSend_rxByte (id : Ident) : (acceptSend id s).rxByte = s.rxByte := rfl
@[simp] theorem acceptSend_syState (id : Ident) : (acceptSend id s).syState = s.syState := rfl
@[simp] theorem acceptSend_plIdx (id : Ident) : (acceptSend id s).plIdx = s.plIdx := rfl
@[simp] theorem acceptSend_pl (id : Ident) : (acceptSend id s).pl = s.pl := rfl
@[simp] theorem acceptSend_mbReady (id : Ident) : (acceptSend id s).mbReady = s.mbReady := rfl
@[simp] theorem acceptSend_mbSlot (id : Ident) : (acceptSend id s).mbSlot = s.mbSlot := rfl
@[simp] theorem acceptSend_txBusy (id : Ident) : (acceptSend id s).txBusy = true := rfl
@[simp] theorem acceptSend_txByte (id : Ident) : (acceptSend id s).txByte = 0 := rfl
@[simp] theorem acceptSend_txBit (id : Ident) : (acceptSend id s).txBit = 0 := rfl
@[simp] theorem acceptSend_txFrame (id : Ident) : (acceptSend id s).txFrame = frameBytes id := rfl
@[simp] theorem acceptSend_txEnv (id : Ident) : (acceptSend id s).txEnv = s.txEnv := rfl
@[simp] theorem acceptSend_carCnt (id : Ident) : (acceptSend id s).carCnt = s.carCnt := rfl
@[simp] theorem acceptSend_cfg (id : Ident) : (acceptSend id s).cfg = s.cfg := rfl
@[simp] theorem acceptSend_sendIdPort (id : Ident) : (acceptSend id s).sendIdPort = s.sendIdPort := rfl
@[simp] theorem acceptSend_sendResp (id : Ident) : (acceptSend id s).sendResp = some true := rfl
@[simp] theorem acceptSend_readResp (id : Ident) : (acceptSend id s).readResp = s.readResp := rfl
@[simp] theorem acceptSend_trace (id : Ident) : (acceptSend id s).trace = s.trace := rfl

@[simp] theorem shiftFree_rxEn (l : Bool) : (shiftFree l s).rxEn = s.rxEn := rfl
@[simp] theorem shiftFree_txEn (l : Bool) : (shiftFree l s).txEn = s.txEn := rfl
@[simp] theorem shiftFree_rxErr (l : Bool) : (shiftFree l s).rxErr = s.rxErr := rfl
@[simp] theorem shiftFree_txErr (l : Bool) : (shiftFree l s).txErr = s.txErr := rfl
@[simp] theorem shiftFree_rxCnt (l : Bool) : (shiftFree l s).rxCnt = s.rxCnt := rfl
@[simp] theorem shiftFree_txCnt (l : Bool) : (shiftFree l s).txCnt = s.txCnt := rfl
@[simp] theorem shiftFree_rxMeta (l : Bool) : (shiftFree l s).rxMeta = s.rxMeta.extractLsb' 0 1 ++ BitVec.ofBool l := rfl
@[simp] theorem shiftFree_rxBusy (l : Bool) : (shiftFree l s).rxBusy = s.rxBusy := rfl
@[simp] theorem shiftFree_rxIdx (l : Bool) : (shiftFree l s).rxIdx = s.rxIdx := rfl
@[simp] theorem shiftFree_rxByte (l : Bool) : (shiftFree l s).rxByte = s.rxByte := rfl
@[simp] theorem shiftFree_syState (l : Bool) : (shiftFree l s).syState = s.syState := rfl
@[simp] theorem shiftFree_plIdx (l : Bool) : (shiftFree l s).plIdx = s.plIdx := rfl
@[simp] theorem shiftFree_pl (l : Bool) : (shiftFree l s).pl = s.pl := rfl
@[simp] theorem shiftFree_mbReady (l : Bool) : (shiftFree l s).mbReady = s.mbReady := rfl
@[simp] theorem shiftFree_mbSlot (l : Bool) : (shiftFree l s).mbSlot = s.mbSlot := rfl
@[simp] theorem shiftFree_txBusy (l : Bool) : (shiftFree l s).txBusy = s.txBusy := rfl
@[simp] theorem shiftFree_txByte (l : Bool) : (shiftFree l s).txByte = s.txByte := rfl
@[simp] theorem shiftFree_txBit (l : Bool) : (shiftFree l s).txBit = s.txBit := rfl
@[simp] theorem shiftFree_txFrame (l : Bool) : (shiftFree l s).txFrame = s.txFrame := rfl
@[simp] theorem shiftFree_txEnv (l : Bool) : (shiftFree l s).txEnv = s.txEnv := rfl
@[simp] theorem shiftFree_carCnt (l : Bool) : (shiftFree l s).carCnt = if s.carCnt < s.cfg.carDivPred then s.carCnt + 1 else 0 := rfl
@[simp] theorem shiftFree_cfg (l : Bool) : (shiftFree l s).cfg = s.cfg := rfl
@[simp] theorem shiftFree_sendIdPort (l : Bool) : (shiftFree l s).sendIdPort = s.sendIdPort := rfl
@[simp] theorem shiftFree_sendResp (l : Bool) : (shiftFree l s).sendResp = s.sendResp := rfl
@[simp] theorem shiftFree_readResp (l : Bool) : (shiftFree l s).readResp = s.readResp := rfl
@[simp] theorem shiftFree_trace (l : Bool) : (shiftFree l s).trace = s.trace := rfl

@[simp] theorem fetched_rxEn (rest : List Code) : (fetched rest s).rxEn = s.rxEn := rfl
@[simp] theorem fetched_txEn (rest : List Code) : (fetched rest s).txEn = s.txEn := rfl
@[simp] theorem fetched_rxErr (rest : List Code) : (fetched rest s).rxErr = s.rxErr := rfl
@[simp] theorem fetched_txErr (rest : List Code) : (fetched rest s).txErr = s.txErr := rfl
@[simp] theorem fetched_rxCnt (rest : List Code) : (fetched rest s).rxCnt = s.rxCnt := rfl
@[simp] theorem fetched_txCnt (rest : List Code) : (fetched rest s).txCnt = s.txCnt := rfl
@[simp] theorem fetched_rxMeta (rest : List Code) : (fetched rest s).rxMeta = s.rxMeta := rfl
@[simp] theorem fetched_rxBusy (rest : List Code) : (fetched rest s).rxBusy = s.rxBusy := rfl
@[simp] theorem fetched_rxIdx (rest : List Code) : (fetched rest s).rxIdx = s.rxIdx := rfl
@[simp] theorem fetched_rxByte (rest : List Code) : (fetched rest s).rxByte = s.rxByte := rfl
@[simp] theorem fetched_syState (rest : List Code) : (fetched rest s).syState = s.syState := rfl
@[simp] theorem fetched_plIdx (rest : List Code) : (fetched rest s).plIdx = s.plIdx := rfl
@[simp] theorem fetched_pl (rest : List Code) : (fetched rest s).pl = s.pl := rfl
@[simp] theorem fetched_mbReady (rest : List Code) : (fetched rest s).mbReady = s.mbReady := rfl
@[simp] theorem fetched_mbSlot (rest : List Code) : (fetched rest s).mbSlot = s.mbSlot := rfl
@[simp] theorem fetched_txBusy (rest : List Code) : (fetched rest s).txBusy = s.txBusy := rfl
@[simp] theorem fetched_txByte (rest : List Code) : (fetched rest s).txByte = s.txByte := rfl
@[simp] theorem fetched_txBit (rest : List Code) : (fetched rest s).txBit = s.txBit := rfl
@[simp] theorem fetched_txFrame (rest : List Code) : (fetched rest s).txFrame = s.txFrame := rfl
@[simp] theorem fetched_txEnv (rest : List Code) : (fetched rest s).txEnv = s.txEnv := rfl
@[simp] theorem fetched_carCnt (rest : List Code) : (fetched rest s).carCnt = s.carCnt := rfl
@[simp] theorem fetched_cfg (rest : List Code) : (fetched rest s).cfg = s.cfg := rfl
@[simp] theorem fetched_sendIdPort (rest : List Code) : (fetched rest s).sendIdPort = s.sendIdPort := rfl
@[simp] theorem fetched_sendResp (rest : List Code) : (fetched rest s).sendResp = none := rfl
@[simp] theorem fetched_readResp (rest : List Code) : (fetched rest s).readResp = none := rfl
@[simp] theorem fetched_trace (rest : List Code) : (fetched rest s).trace = rest := rfl

@[simp] theorem placeCode_rxEn (c : Code) : (placeCode c s).rxEn = s.rxEn := rfl
@[simp] theorem placeCode_txEn (c : Code) : (placeCode c s).txEn = s.txEn := rfl
@[simp] theorem placeCode_rxErr (c : Code) : (placeCode c s).rxErr = s.rxErr := rfl
@[simp] theorem placeCode_txErr (c : Code) : (placeCode c s).txErr = s.txErr := rfl
@[simp] theorem placeCode_rxCnt (c : Code) : (placeCode c s).rxCnt = s.rxCnt := rfl
@[simp] theorem placeCode_txCnt (c : Code) : (placeCode c s).txCnt = s.txCnt := rfl
@[simp] theorem placeCode_rxMeta (c : Code) : (placeCode c s).rxMeta = s.rxMeta := rfl
@[simp] theorem placeCode_rxBusy (c : Code) : (placeCode c s).rxBusy = s.rxBusy := rfl
@[simp] theorem placeCode_rxIdx (c : Code) : (placeCode c s).rxIdx = s.rxIdx := rfl
@[simp] theorem placeCode_rxByte (c : Code) : (placeCode c s).rxByte = s.rxByte := rfl
@[simp] theorem placeCode_syState (c : Code) : (placeCode c s).syState = s.syState := rfl
@[simp] theorem placeCode_plIdx (c : Code) : (placeCode c s).plIdx = s.plIdx := rfl
@[simp] theorem placeCode_pl (c : Code) : (placeCode c s).pl = s.pl := rfl
@[simp] theorem placeCode_mbReady (c : Code) : (placeCode c s).mbReady = s.mbReady := rfl
@[simp] theorem placeCode_mbSlot (c : Code) : (placeCode c s).mbSlot = s.mbSlot := rfl
@[simp] theorem placeCode_txBusy (c : Code) : (placeCode c s).txBusy = s.txBusy := rfl
@[simp] theorem placeCode_txByte (c : Code) : (placeCode c s).txByte = s.txByte := rfl
@[simp] theorem placeCode_txBit (c : Code) : (placeCode c s).txBit = s.txBit := rfl
@[simp] theorem placeCode_txFrame (c : Code) : (placeCode c s).txFrame = s.txFrame := rfl
@[simp] theorem placeCode_txEnv (c : Code) : (placeCode c s).txEnv = s.txEnv := rfl
@[simp] theorem placeCode_carCnt (c : Code) : (placeCode c s).carCnt = s.carCnt := rfl
@[simp] theorem placeCode_cfg (c : Code) : (placeCode c s).cfg = s.cfg := rfl
@[simp] theorem placeCode_sendIdPort (c : Code) : (placeCode c s).sendIdPort = s.sendIdPort := rfl
@[simp] theorem placeCode_sendResp (c : Code) : (placeCode c s).sendResp = s.sendResp := rfl
@[simp] theorem placeCode_readResp (c : Code) : (placeCode c s).readResp = s.readResp := rfl
@[simp] theorem placeCode_trace (c : Code) : (placeCode c s).trace = c :: s.trace := rfl

@[simp] theorem slotPosition_rxEn (n : Nat) : (slotPosition n s).rxEn = s.rxEn := rfl
@[simp] theorem slotPosition_txEn (n : Nat) : (slotPosition n s).txEn = s.txEn := rfl
@[simp] theorem slotPosition_rxErr (n : Nat) : (slotPosition n s).rxErr = s.rxErr := rfl
@[simp] theorem slotPosition_txErr (n : Nat) : (slotPosition n s).txErr = s.txErr := rfl
@[simp] theorem slotPosition_rxCnt (n : Nat) : (slotPosition n s).rxCnt = s.rxCnt := rfl
@[simp] theorem slotPosition_txCnt (n : Nat) : (slotPosition n s).txCnt = s.txCnt := rfl
@[simp] theorem slotPosition_rxMeta (n : Nat) : (slotPosition n s).rxMeta = s.rxMeta := rfl
@[simp] theorem slotPosition_rxBusy (n : Nat) : (slotPosition n s).rxBusy = s.rxBusy := rfl
@[simp] theorem slotPosition_rxIdx (n : Nat) : (slotPosition n s).rxIdx = s.rxIdx := rfl
@[simp] theorem slotPosition_rxByte (n : Nat) : (slotPosition n s).rxByte = s.rxByte := rfl
@[simp] theorem slotPosition_syState (n : Nat) : (slotPosition n s).syState = s.syState := rfl
@[simp] theorem slotPosition_plIdx (n : Nat) : (slotPosition n s).plIdx = s.plIdx := rfl
@[simp] theorem slotPosition_pl (n : Nat) : (slotPosition n s).pl = s.pl := rfl
@[simp] theorem slotPosition_mbReady (n : Nat) : (slotPosition n s).mbReady = s.mbReady := rfl
@[simp] theorem slotPosition_mbSlot (n : Nat) : (slotPosition n s).mbSlot = s.mbSlot := rfl
@[simp] theorem slotPosition_txBusy (n : Nat) : (slotPosition n s).txBusy = s.txBusy := rfl
@[simp] theorem slotPosition_txByte (n : Nat) : (slotPosition n s).txByte = Fin.ofNat 9 (n / 10) := rfl
@[simp] theorem slotPosition_txBit (n : Nat) : (slotPosition n s).txBit = Fin.ofNat 10 (n % 10) := rfl
@[simp] theorem slotPosition_txFrame (n : Nat) : (slotPosition n s).txFrame = s.txFrame := rfl
@[simp] theorem slotPosition_txEnv (n : Nat) : (slotPosition n s).txEnv = s.txEnv := rfl
@[simp] theorem slotPosition_carCnt (n : Nat) : (slotPosition n s).carCnt = s.carCnt := rfl
@[simp] theorem slotPosition_cfg (n : Nat) : (slotPosition n s).cfg = s.cfg := rfl
@[simp] theorem slotPosition_sendIdPort (n : Nat) : (slotPosition n s).sendIdPort = s.sendIdPort := rfl
@[simp] theorem slotPosition_sendResp (n : Nat) : (slotPosition n s).sendResp = s.sendResp := rfl
@[simp] theorem slotPosition_readResp (n : Nat) : (slotPosition n s).readResp = s.readResp := rfl
@[simp] theorem slotPosition_trace (n : Nat) : (slotPosition n s).trace = s.trace := rfl

end Sys2Proof.Machine
end

