-- ==== Sys2Proof/Laws/Wire.lean ====
section
/-! SUPPORT. Lemmas about the bit layouts of Decode.lean: fields of a code, packed identities, characters and frames. -/

namespace Sys2Proof

/-! ## Fields of a code -/

theorem fieldAt_getLsbD {w : Nat} (x : BitVec w) (n i : Nat) :
    (fieldAt x n).getLsbD i = (decide (i < 80) && (decide (n ≤ i) && x.getLsbD (i - n))) := by
  simp only [fieldAt, BitVec.getLsbD_shiftLeft, BitVec.getLsbD_setWidth]
  by_cases h80 : i < 80
  · by_cases hn : i < n
    · simp [hn, Nat.not_le.mpr hn]
    · have hsub : i - n < 80 := by omega
      simp [h80, hn, Nat.not_lt.mp hn, hsub]
  · simp [h80]

theorem evBits_low (ev : BitVec 7) (level okRx okTx : Bool) (id : Ident) (i : Nat) (hi : i < 16) :
    (evBits ev level okRx okTx id).getLsbD i = (evLow ev level okRx okTx).getLsbD i := by
  have h80 : i < 80 := by omega
  have h16 : ¬ 16 ≤ i := by omega
  simp only [evBits, BitVec.getLsbD_or, fieldAt_getLsbD]
  simp [h80, h16]

theorem evOf_evBits (ev : BitVec 7) (level okRx okTx : Bool) (id : Ident) :
    evOf (evBits ev level okRx okTx id) = ev := by
  have h : ∀ (e : BitVec 7) (l r t : Bool) (i : Fin 7), (evLow e l r t).getLsbD i = e.getLsbD i := by decide
  refine BitVec.eq_of_getLsbD_eq fun i hi => ?_
  simp only [evOf, BitVec.getLsbD_extractLsb', hi, decide_true, Bool.true_and, Nat.zero_add]
  rw [evBits_low _ _ _ _ _ _ (by omega)]
  exact h ev level okRx okTx ⟨i, hi⟩

theorem evRst_evBits (ev : BitVec 7) (level okRx okTx : Bool) (id : Ident) :
    evRst (evBits ev level okRx okTx id) = ev.getLsbD 6 := by
  have h := congrArg (fun e => BitVec.getLsbD e 6) (evOf_evBits ev level okRx okTx id)
  simpa only [evOf, BitVec.getLsbD_extractLsb', evRst, Nat.zero_add, decide_true, Bool.true_and, show (6 < 7) = True by simp] using h

theorem pinRxIn_evBits (ev : BitVec 7) (level okRx okTx : Bool) (id : Ident) :
    pinRxIn (evBits ev level okRx okTx id) = level := by
  have h : ∀ (e : BitVec 7) (l r t : Bool), (evLow e l r t).getLsbD 8 = l := by decide
  rw [pinRxIn, evBits_low _ _ _ _ _ _ (by omega)]
  exact h ev level okRx okTx

theorem pinInitRxOk_evBits (ev : BitVec 7) (level okRx okTx : Bool) (id : Ident) :
    pinInitRxOk (evBits ev level okRx okTx id) = okRx := by
  have h : ∀ (e : BitVec 7) (l r t : Bool), (evLow e l r t).getLsbD 9 = r := by decide
  rw [pinInitRxOk, evBits_low _ _ _ _ _ _ (by omega)]
  exact h ev level okRx okTx

theorem pinInitTxOk_evBits (ev : BitVec 7) (level okRx okTx : Bool) (id : Ident) :
    pinInitTxOk (evBits ev level okRx okTx id) = okTx := by
  have h : ∀ (e : BitVec 7) (l r t : Bool), (evLow e l r t).getLsbD 10 = t := by decide
  rw [pinInitTxOk, evBits_low _ _ _ _ _ _ (by omega)]
  exact h ev level okRx okTx

theorem pinSendId_evBits (ev : BitVec 7) (level okRx okTx : Bool) (id : Ident) :
    pinSendId (evBits ev level okRx okTx id) = id := by
  refine BitVec.eq_of_getLsbD_eq fun i hi => ?_
  have h80 : 16 + i < 80 := by omega
  simp only [pinSendId, BitVec.getLsbD_extractLsb', evBits, BitVec.getLsbD_or, fieldAt_getLsbD]
  simp [hi, h80]

/-! ## Identities -/

theorem packIdent_identByte (id : Ident) :
    packIdent (identByte id 0) (identByte id 1) (identByte id 2) (identByte id 3) (identByte id 4) (identByte id 5) = id := by
  refine BitVec.eq_of_getLsbD_eq fun i hi => ?_
  simp only [packIdent, byteAt, identByte, BitVec.getLsbD_or, BitVec.getLsbD_shiftLeft, BitVec.getLsbD_setWidth,
    BitVec.getLsbD_extractLsb']
  interval_cases i <;> simp

/-! ## Characters and frames -/

theorem unCharBits_charBits (b : Byte) : unCharBits (charBits b) = some b := by
  revert b
  decide

theorem unFrameBits_frameBits (id : Ident) : unFrameBits (frameBits id) = some id := by
  have part (k : Nat) (c : BitVec 10) (h : ∀ i < 10, (frameBits id).getLsbD (k + i) = c.getLsbD i) :
      (frameBits id).extractLsb' k 10 = c :=
    BitVec.eq_of_getLsbD_eq fun i hi => by simp [hi, h i hi]
  unfold unFrameBits
  rw [part 70 (charBits Config.preamble1) ?_, part 60 (charBits Config.preamble2) ?_, part 50 (charBits (identByte id 0)) ?_,
    part 40 (charBits (identByte id 1)) ?_, part 30 (charBits (identByte id 2)) ?_, part 20 (charBits (identByte id 3)) ?_,
    part 10 (charBits (identByte id 4)) ?_, part 0 (charBits (identByte id 5)) ?_]
  · simp [unCharBits_charBits, packIdent_identByte]
  all_goals
    intro i hi
    simp only [frameBits, BitVec.getLsbD_or, fieldAt_getLsbD]
    interval_cases i <;> simp

/-- Bit `n` of a character's pattern, the first slot in the most significant bit, is its logic bit (R81). -/
theorem charBits_slotBit (b : Byte) (n : Fin 10) : (charBits b).getLsbD (9 - n) = slotBit b n := by
  revert b n
  decide

end Sys2Proof
end

