-- ==== Sys2Proof/Laws/Ops.lean ====
section
/-! SUPPORT. For each shared operation, once, everything it can do; and what it leaves unchanged. -/

namespace Sys2Proof

/-! ## The width of a counter -/

theorem leastWidth_ge (d start fuel : Nat) : start ≤ leastWidth d start fuel := by
  induction fuel generalizing start with
  | zero => exact le_refl start
  | succ n ih =>
    unfold leastWidth
    split
    · exact le_refl start
    · exact (Nat.le_succ start).trans (ih (start + 1))

theorem leastWidth_least (d start fuel w : Nat) (hw : start ≤ w) (hd : d ≤ 2 ^ w) : leastWidth d start fuel ≤ w := by
  induction fuel generalizing start with
  | zero => exact hw
  | succ n ih =>
    unfold leastWidth
    split
    · exact hw
    · rename_i h
      have hne : start ≠ w := fun e => h (e ▸ hd)
      exact ih (start + 1) (by omega)

theorem leastWidth_holds (d start fuel : Nat) (h : d ≤ 2 ^ (start + fuel)) : d ≤ 2 ^ leastWidth d start fuel := by
  induction fuel generalizing start with
  | zero => exact h
  | succ n ih =>
    unfold leastWidth
    split
    · assumption
    · exact ih (start + 1) (by rwa [show start + 1 + n = start + (n + 1) by omega])

end Sys2Proof

namespace Sys2Proof.Machine

/-- A counter in its range stays in its range (R105). -/
theorem nextCount_lt (c : Config) (run : Bool) (cnt : Nat) (h : cnt < c.bitDiv) : nextCount c run cnt < c.bitDiv := by
  unfold nextCount
  split
  · split
    · exact Nat.succ_pos _
    · rename_i hne
      have hb : cnt + 1 < c.bitDiv := by simp only [Config.bitDiv] at h ⊢; omega
      exact lt_of_le_of_lt (Nat.mod_le _ _) hb
  · exact h

/-- The Self-Filter's six byte comparisons are one comparison of the identities (R106). -/
theorem sameIdent_iff (a b : Ident) : sameIdent a b = true ↔ a = b := by
  constructor
  · intro h
    simp only [sameIdent, Bool.and_eq_true, beq_iff_eq] at h
    obtain ⟨⟨⟨⟨⟨h0, h1⟩, h2⟩, h3⟩, h4⟩, h5⟩ := h
    rw [← packIdent_identByte a, ← packIdent_identByte b, h0, h1, h2, h3, h4, h5]
  · rintro rfl
    simp [sameIdent]

theorem sameIdent_false_iff (a b : Ident) : sameIdent a b = false ↔ a ≠ b := by
  rw [← Bool.not_eq_true, sameIdent_iff]

@[simp] theorem eq1_iff (b : Byte) : eq1 b = true ↔ b = Config.preamble1 := by simp [eq1]
@[simp] theorem eq2_iff (b : Byte) : eq2 b = true ↔ b = Config.preamble2 := by simp [eq2]
@[simp] theorem lastIdx_iff (s : State) : lastIdx s = true ↔ s.plIdx.val = 5 := by simp [lastIdx]

theorem onlyIf_cases (c : Bool) (t s : State) : (c = true ∧ onlyIf c t s = t) ∨ (c = false ∧ onlyIf c t s = s) := by
  cases c <;> simp [onlyIf]

theorem emitFrame_cases (id : Ident) (s : State) :
    (id = s.cfg.localId ∧ emitFrame id s = s) ∨ (id ≠ s.cfg.localId ∧ emitFrame id s = putMailbox id s) := by
  unfold emitFrame
  split
  · exact .inl ⟨(sameIdent_iff _ _).mp ‹_›, rfl⟩
  · exact .inr ⟨(sameIdent_iff _ _).not.mp ‹_›, rfl⟩

theorem readMailbox_cases (s : State) :
    (s.mbReady = true ∧ readMailbox s = { s with mbReady := false, readResp := some (some s.mbSlot) }) ∨
    (s.mbReady = false ∧ readMailbox s = { s with readResp := some none }) := by
  cases h : s.mbReady <;> simp [readMailbox, h, respondRead]

theorem sendOp_cases (id : Ident) (s : State) :
    (s.txEn = true ∧ s.txBusy = false ∧ sendOp id s = acceptSend id s) ∨
    ((s.txEn = false ∨ s.txBusy = true) ∧ sendOp id s = respondSend false s) := by
  cases h : s.txEn <;> cases k : s.txBusy <;> simp [sendOp, h, k]

theorem initRx_cases (ok : Bool) (s : State) :
    ((s.rxEn = true ∨ s.rxErr = true) ∧ initRx ok s = s) ∨
    (s.rxEn = false ∧ s.rxErr = false ∧ ok = true ∧ initRx ok s = { s with rxEn := true, rxCnt := 0 }) ∨
    (s.rxEn = false ∧ s.rxErr = false ∧ ok = false ∧ initRx ok s = { s with rxErr := true }) := by
  cases h : s.rxEn <;> cases k : s.rxErr <;> cases ok <;> simp [initRx, h, k, bcStartRx]

theorem initTx_cases (ok : Bool) (s : State) :
    ((s.txEn = true ∨ s.txErr = true) ∧ initTx ok s = s) ∨
    (s.txEn = false ∧ s.txErr = false ∧ ok = true ∧ initTx ok s = { s with txEn := true }) ∨
    (s.txEn = false ∧ s.txErr = false ∧ ok = false ∧ initTx ok s = { s with txErr := true }) := by
  cases h : s.txEn <;> cases k : s.txErr <;> cases ok <;> simp [initTx, h, k]

/-- BYTE_DONE: the rows of R171. -/
theorem byteDoneOp_cases (b : Byte) (s : State) :
    (s.syState = .wp1 ∧ b = Config.preamble1 ∧ byteDoneOp b s = { s with syState := .wp2 }) ∨
    (s.syState = .wp1 ∧ b ≠ Config.preamble1 ∧ byteDoneOp b s = { s with syState := .wp1 }) ∨
    (s.syState = .wp2 ∧ b = Config.preamble2 ∧ byteDoneOp b s = { s with syState := .col, plIdx := 0 }) ∨
    (s.syState = .wp2 ∧ b ≠ Config.preamble2 ∧ byteDoneOp b s = { s with syState := .wp1 }) ∨
    (s.syState = .col ∧ ∃ h : s.plIdx.val < 5,
      byteDoneOp b s = { storePayload b s with plIdx := ⟨s.plIdx.val + 1, Nat.succ_lt_succ h⟩ }) ∨
    (s.syState = .col ∧ s.plIdx.val = 5 ∧
      byteDoneOp b s = emitFrame (payloadIdent s.pl b) { storePayload b s with syState := .wp1 }) := by
  have hi := s.plIdx.isLt
  rcases hs : s.syState with _ | _ | _
  · by_cases hb : b = Config.preamble1
    · exact .inl ⟨rfl, hb, by simp only [byteDoneOp, hs, (eq1_iff b).mpr hb, if_true]⟩
    · exact .inr (.inl ⟨rfl, hb, by simp only [byteDoneOp, hs, eq1_iff, hb, if_false]⟩)
  · by_cases hb : b = Config.preamble2
    · exact .inr (.inr (.inl ⟨rfl, hb, by simp only [byteDoneOp, hs, (eq2_iff b).mpr hb, if_true]⟩))
    · exact .inr (.inr (.inr (.inl ⟨rfl, hb, by simp only [byteDoneOp, hs, eq2_iff, hb, if_false]⟩)))
  · by_cases hp : s.plIdx.val < 5
    · exact .inr (.inr (.inr (.inr (.inl ⟨rfl, hp, by simp only [byteDoneOp, hs, hp, dif_pos]⟩))))
    · exact .inr (.inr (.inr (.inr (.inr ⟨rfl, by omega, by simp only [byteDoneOp, hs, hp, dif_neg, not_false_eq_true]⟩))))

theorem rxTickOp_cases (level : Bool) (s : State) :
    (s.rxEn = false ∧ rxTickOp level s = s) ∨
    (s.rxEn = true ∧ s.rxBusy = false ∧ level = true ∧ rxTickOp level s = s) ∨
    (s.rxEn = true ∧ s.rxBusy = false ∧ level = false ∧ rxTickOp level s = startChar s) ∨
    (s.rxEn = true ∧ s.rxBusy = true ∧ ∃ h : s.rxIdx.val < 8, rxTickOp level s = sampleData level s h) ∨
    (s.rxEn = true ∧ s.rxBusy = true ∧ s.rxIdx.val = 8 ∧ rxTickOp level s = stopChar s) := by
  have hi := s.rxIdx.isLt
  cases he : s.rxEn
  · simp [rxTickOp, rxRuns, he]
  · cases hb : s.rxBusy
    · cases level <;> simp [rxTickOp, rxRuns, he, hb]
    · by_cases h8 : s.rxIdx.val < 8
      · simp [rxTickOp, rxRuns, he, hb, h8]
      · have : s.rxIdx.val = 8 := by omega
        simp [rxTickOp, rxRuns, he, hb, this]

theorem driveSlot_cases (bit : Bool) (s : State) (h : s.txByte.val < 8) :
    (∃ hb : s.txBit.val < 9, driveSlot bit s h = { s with txEnv := !bit, txBit := ⟨s.txBit.val + 1, Nat.succ_lt_succ hb⟩ }) ∨
    (s.txBit.val = 9 ∧
      driveSlot bit s h = { s with txEnv := !bit, txBit := 0, txByte := ⟨s.txByte.val + 1, Nat.succ_lt_succ h⟩ }) := by
  have hi := s.txBit.isLt
  by_cases hb : s.txBit.val < 9
  · exact .inl ⟨hb, by simp [driveSlot, hb, envOf]⟩
  · have h9 : s.txBit.val = 9 := by omega
    exact .inr ⟨h9, by simp [driveSlot, h9, envOf]⟩

theorem txTickOp_cases (s : State) :
    (s.txBusy = false ∧ txTickOp s = s) ∨
    (s.txBusy = true ∧ s.txByte.val = 8 ∧ txTickOp s = { s with txEnv := false, txBusy := false }) ∨
    (s.txBusy = true ∧ ∃ h : s.txByte.val < 8, txTickOp s = driveSlot (slotHere s h) s h) := by
  have hi := s.txByte.isLt
  cases hb : s.txBusy
  · simp [txTickOp, txRuns, hb]
  · by_cases h8 : s.txByte.val < 8
    · simp [txTickOp, txRuns, hb, h8]
    · have : s.txByte.val = 8 := by omega
      simp [txTickOp, txRuns, hb, this, endTx, bcStop]

/-! ## What an operation leaves unchanged -/

theorem SameTx.refl (s : State) : SameTx s s := ⟨rfl, rfl, rfl, rfl, rfl, rfl, rfl, rfl, rfl⟩
theorem SameRx.refl (s : State) : SameRx s s := ⟨rfl, rfl, rfl, rfl, rfl, rfl, rfl, rfl, rfl, rfl, rfl, rfl⟩
theorem SameRest.refl (s : State) : SameRest s s := ⟨rfl, rfl, rfl, rfl, rfl⟩

theorem emitFrame_sameTx (id : Ident) (s : State) : SameTx s (emitFrame id s) := by
  rcases emitFrame_cases id s with ⟨-, h⟩ | ⟨-, h⟩ <;> rw [h] <;> constructor <;> rfl

theorem emitFrame_sameRest (id : Ident) (s : State) : SameRest s (emitFrame id s) := by
  rcases emitFrame_cases id s with ⟨-, h⟩ | ⟨-, h⟩ <;> rw [h] <;> constructor <;> rfl

/-- What FRAME_EMIT leaves of the receive path: all but the mailbox. -/
theorem emitFrame_rx (id : Ident) (s : State) :
    (emitFrame id s).rxBusy = s.rxBusy ∧ (emitFrame id s).rxIdx = s.rxIdx ∧ (emitFrame id s).rxByte = s.rxByte ∧
    (emitFrame id s).syState = s.syState ∧ (emitFrame id s).plIdx = s.plIdx ∧ (emitFrame id s).pl = s.pl ∧
    (emitFrame id s).rxCnt = s.rxCnt ∧ (emitFrame id s).rxEn = s.rxEn ∧ (emitFrame id s).rxErr = s.rxErr ∧
    (emitFrame id s).readResp = s.readResp := by
  rcases emitFrame_cases id s with ⟨-, h⟩ | ⟨-, h⟩ <;> rw [h] <;> simp

theorem byteDoneOp_sameTx (b : Byte) (s : State) : SameTx s (byteDoneOp b s) := by
  rcases byteDoneOp_cases b s with ⟨-, -, h⟩ | ⟨-, -, h⟩ | ⟨-, -, h⟩ | ⟨-, -, h⟩ | ⟨-, _, h⟩ | ⟨-, -, h⟩
  case inr.inr.inr.inr.inr =>
    rw [h]
    obtain ⟨h1, h2, h3, h4, h5, h6, h7, h8, h9⟩ :=
      emitFrame_sameTx (payloadIdent s.pl b) { storePayload b s with syState := .wp1 }
    exact ⟨h1, h2, h3, h4, h5, h6, h7, h8, h9⟩
  all_goals (rw [h]; constructor <;> rfl)

theorem byteDoneOp_sameRest (b : Byte) (s : State) : SameRest s (byteDoneOp b s) := by
  rcases byteDoneOp_cases b s with ⟨-, -, h⟩ | ⟨-, -, h⟩ | ⟨-, -, h⟩ | ⟨-, -, h⟩ | ⟨-, _, h⟩ | ⟨-, -, h⟩
  case inr.inr.inr.inr.inr =>
    rw [h]
    obtain ⟨h1, h2, h3, h4, h5⟩ := emitFrame_sameRest (payloadIdent s.pl b) { storePayload b s with syState := .wp1 }
    exact ⟨h1, h2, h3, h4, h5⟩
  all_goals (rw [h]; constructor <;> rfl)

/-- What BYTE_DONE leaves of the receive path: the sampler and the BitClock. -/
theorem byteDoneOp_sampler (b : Byte) (s : State) :
    (byteDoneOp b s).rxBusy = s.rxBusy ∧ (byteDoneOp b s).rxIdx = s.rxIdx ∧ (byteDoneOp b s).rxByte = s.rxByte ∧
    (byteDoneOp b s).rxCnt = s.rxCnt ∧ (byteDoneOp b s).rxEn = s.rxEn ∧ (byteDoneOp b s).rxErr = s.rxErr ∧
    (byteDoneOp b s).readResp = s.readResp := by
  rcases byteDoneOp_cases b s with ⟨-, -, h⟩ | ⟨-, -, h⟩ | ⟨-, -, h⟩ | ⟨-, -, h⟩ | ⟨-, _, h⟩ | ⟨-, -, h⟩
  case inr.inr.inr.inr.inr =>
    rw [h]
    obtain ⟨h1, h2, h3, -, -, -, h4, h5, h6, h7⟩ :=
      emitFrame_rx (payloadIdent s.pl b) { storePayload b s with syState := .wp1 }
    exact ⟨h1, h2, h3, h4, h5, h6, h7⟩
  all_goals (rw [h]; simp)

theorem rxTickOp_sameTx (level : Bool) (s : State) : SameTx s (rxTickOp level s) := by
  rcases rxTickOp_cases level s with ⟨-, h⟩ | ⟨-, -, -, h⟩ | ⟨-, -, -, h⟩ | ⟨-, -, _, h⟩ | ⟨-, -, -, h⟩
  case inr.inr.inr.inr =>
    rw [h]
    obtain ⟨h1, h2, h3, h4, h5, h6, h7, h8, h9⟩ := byteDoneOp_sameTx s.rxByte { s with rxBusy := false }
    exact ⟨h1, h2, h3, h4, h5, h6, h7, h8, h9⟩
  all_goals (rw [h]; constructor <;> rfl)

theorem rxTickOp_sameRest (level : Bool) (s : State) : SameRest s (rxTickOp level s) := by
  rcases rxTickOp_cases level s with ⟨-, h⟩ | ⟨-, -, -, h⟩ | ⟨-, -, -, h⟩ | ⟨-, -, _, h⟩ | ⟨-, -, -, h⟩
  case inr.inr.inr.inr =>
    rw [h]
    obtain ⟨h1, h2, h3, h4, h5⟩ := byteDoneOp_sameRest s.rxByte { s with rxBusy := false }
    exact ⟨h1, h2, h3, h4, h5⟩
  all_goals (rw [h]; constructor <;> rfl)

/-- An RX_TICK leaves the RX BitClock, the enables and the response of MB_READ. -/
theorem rxTickOp_clock (level : Bool) (s : State) :
    (rxTickOp level s).rxCnt = s.rxCnt ∧ (rxTickOp level s).rxEn = s.rxEn ∧ (rxTickOp level s).rxErr = s.rxErr ∧
    (rxTickOp level s).readResp = s.readResp := by
  rcases rxTickOp_cases level s with ⟨-, h⟩ | ⟨-, -, -, h⟩ | ⟨-, -, -, h⟩ | ⟨-, -, _, h⟩ | ⟨-, -, -, h⟩
  case inr.inr.inr.inr =>
    rw [h]
    obtain ⟨-, -, -, h1, h2, h3, h4⟩ := byteDoneOp_sampler s.rxByte { s with rxBusy := false }
    exact ⟨h1, h2, h3, h4⟩
  all_goals (rw [h]; exact ⟨rfl, rfl, rfl, rfl⟩)

theorem driveSlot_sameRx (bit : Bool) (s : State) (h : s.txByte.val < 8) : SameRx s (driveSlot bit s h) := by
  rcases driveSlot_cases bit s h with ⟨_, h⟩ | ⟨-, h⟩ <;> rw [h] <;> constructor <;> rfl

theorem txTickOp_sameRx (s : State) : SameRx s (txTickOp s) := by
  rcases txTickOp_cases s with ⟨-, h⟩ | ⟨-, -, h⟩ | ⟨-, h8, h⟩
  case inr.inr => rw [h]; exact driveSlot_sameRx _ s h8
  all_goals (rw [h]; constructor <;> rfl)

theorem txTickOp_sameRest (s : State) : SameRest s (txTickOp s) := by
  rcases txTickOp_cases s with ⟨-, h⟩ | ⟨-, -, h⟩ | ⟨-, h8, h⟩
  case inr.inr => rw [h]; rcases driveSlot_cases (slotHere s h8) s h8 with ⟨_, h⟩ | ⟨-, h⟩ <;> rw [h] <;> constructor <;> rfl
  all_goals (rw [h]; constructor <;> rfl)

/-! ## Running lists of operations -/

@[simp] theorem runAll_nil (s : State) : runAll [] s = .next s := rfl

theorem runAll_cons {i : Instr} {s t : State} (is : List Instr) (h : exec i s = .next t) :
    runAll (i :: is) s = runAll is t := by
  simp [runAll, h]

theorem runAll_append {is : List Instr} {s t : State} (js : List Instr) (h : runAll is s = .next t) :
    runAll (is ++ js) s = runAll js t := by
  induction is generalizing s with
  | nil => cases h; rfl
  | cons i is ih =>
    simp only [List.cons_append, runAll] at h ⊢
    split at h
    · exact ih h
    · cases h
    · cases h

/-- Ten ticks of a character leave the TX side; so does any level sequence. -/
theorem rxLevels_sameTx (ls : List Bool) (s : State) : SameTx s (rxLevels ls s) := by
  induction ls generalizing s with
  | nil => exact SameTx.refl s
  | cons l ls ih =>
    obtain ⟨a1, a2, a3, a4, a5, a6, a7, a8, a9⟩ := rxTickOp_sameTx l s
    obtain ⟨b1, b2, b3, b4, b5, b6, b7, b8, b9⟩ := ih (rxTickOp l s)
    exact ⟨b1.trans a1, b2.trans a2, b3.trans a3, b4.trans a4, b5.trans a5, b6.trans a6, b7.trans a7, b8.trans a8, b9.trans a9⟩

end Sys2Proof.Machine
end

