-- ==== Sys2Proof/Laws/Edge.lean ====
section
/-! SUPPORT. A clock edge in closed form, and runs of edges one edge at a time. -/

namespace Sys2Proof.Machine

theorem runAll_pick {b : Bool} {i : Instr} {s t : State} (is : List Instr) (h : exec i s = .next t) :
    runAll (pick b i ++ is) s = runAll is (onlyIf b t s) := by
  cases b
  · rfl
  · exact runAll_cons is h

/-- The host's operations of an edge, in closed form. -/
theorem runAll_hostOps (bits : BitVec 80) (id : Ident) (is : List Instr) (s : State) :
    runAll (hostOps bits id ++ is) s = runAll is
      (let s1 := onlyIf (evMbRd bits) (readMailbox s) s
       let s2 := onlyIf (evSendReq bits) (sendOp id s1) s1
       let s3 := onlyIf (evInitRx bits) (initRx (pinInitRxOk bits) s2) s2
       onlyIf (evInitTx bits) (initTx (pinInitTxOk bits) s3) s3) := by
  simp only [hostOps, List.append_assoc]
  rw [runAll_pick _ rfl, runAll_pick _ rfl, runAll_pick _ rfl, runAll_pick _ rfl]

/-- The two ticks of an edge, in closed form. -/
theorem runAll_ticks (rx tx level : Bool) (s : State) :
    runAll (pick rx (.rxTick level) ++ pick tx .txTick) s = .next
      (let s1 := onlyIf rx (rxTickOp level s) s
       onlyIf tx (txTickOp s1) s1) := by
  rw [runAll_pick _ rfl, ← List.append_nil (pick tx .txTick), runAll_pick _ rfl]
  rfl

/-- A clock edge without RESET, in closed form. -/
theorem clkEdge_eq (bits : BitVec 80) (s : State) (h : evRst bits = false) :
    clkEdge bits s = .next (shiftFree (pinRxIn bits)
      (let s0 := bcCount s
       let s1 := onlyIf (evMbRd bits) (readMailbox s0) s0
       let s2 := onlyIf (evSendReq bits) (sendOp s.sendIdPort s1) s1
       let s3 := onlyIf (evInitRx bits) (initRx (pinInitRxOk bits) s2) s2
       let s4 := onlyIf (evInitTx bits) (initTx (pinInitTxOk bits) s3) s3
       let s5 := onlyIf (rxTickDue s) (rxTickOp (sampledLevel s) s4) s4
       onlyIf (txTickDue s) (txTickOp s5) s5)) := by
  simp only [clkEdge, h, edgeOps, List.append_assoc, runAll_hostOps, runAll_ticks, andThen, Bool.false_eq_true, if_false]

/-- A clock edge with RESET. -/
theorem clkEdge_rst (bits : BitVec 80) (s : State) (h : evRst bits = true) :
    clkEdge bits s = .next (shiftFree (pinRxIn bits) (resetAll s)) := by
  simp only [clkEdge, h, if_true]
  rfl

theorem SameRest.trans {s t u : State} (h : SameRest s t) (k : SameRest t u) : SameRest s u :=
  ⟨k.1.trans h.1, k.2.trans h.2, k.3.trans h.3, k.4.trans h.4, k.5.trans h.5⟩

theorem onlyIf_sameRest {c : Bool} {s t : State} (h : SameRest s t) : SameRest s (onlyIf c t s) := by
  cases c
  · exact SameRest.refl s
  · exact h

theorem readMailbox_sameRest (s : State) : SameRest s (readMailbox s) := by
  rcases readMailbox_cases s with ⟨-, h⟩ | ⟨-, h⟩ <;> rw [h] <;> constructor <;> rfl

theorem sendOp_sameRest (id : Ident) (s : State) : SameRest s (sendOp id s) := by
  rcases sendOp_cases id s with ⟨-, -, h⟩ | ⟨-, h⟩ <;> rw [h] <;> constructor <;> rfl

theorem initRx_sameRest (ok : Bool) (s : State) : SameRest s (initRx ok s) := by
  rcases initRx_cases ok s with ⟨-, h⟩ | ⟨-, -, -, h⟩ | ⟨-, -, -, h⟩ <;> rw [h] <;> constructor <;> rfl

theorem initTx_sameRest (ok : Bool) (s : State) : SameRest s (initTx ok s) := by
  rcases initTx_cases ok s with ⟨-, h⟩ | ⟨-, -, -, h⟩ | ⟨-, -, -, h⟩ <;> rw [h] <;> constructor <;> rfl

/-- What an edge without RESET does before the free registers move leaves the parameters, the port and the trace. -/
theorem clkEdge_keeps {bits : BitVec 80} {s t : State} (h : clkEdge bits s = .next t) :
    t.cfg = s.cfg ∧ t.sendIdPort = s.sendIdPort ∧ t.trace = s.trace := by
  cases hr : evRst bits
  · rw [clkEdge_eq bits s hr] at h
    cases h
    have k : ∀ u, SameRest s u → (shiftFree (pinRxIn bits) u).cfg = s.cfg ∧
        (shiftFree (pinRxIn bits) u).sendIdPort = s.sendIdPort ∧ (shiftFree (pinRxIn bits) u).trace = s.trace :=
      fun u hu => ⟨hu.cfg, hu.sendIdPort, hu.trace⟩
    have k0 : SameRest s (bcCount s) := ⟨rfl, rfl, rfl, rfl, rfl⟩
    exact k _ <| ((((((k0.trans (onlyIf_sameRest (readMailbox_sameRest _))).trans
      (onlyIf_sameRest (sendOp_sameRest _ _))).trans (onlyIf_sameRest (initRx_sameRest _ _))).trans
      (onlyIf_sameRest (initTx_sameRest _ _))).trans (onlyIf_sameRest (rxTickOp_sameRest _ _))).trans
      (onlyIf_sameRest (txTickOp_sameRest _)))
  · rw [clkEdge_rst bits s hr] at h
    cases h
    exact ⟨rfl, rfl, rfl⟩

/-- An operation of an edge, with its bit, as an update. -/
theorem Performs.onlyIf_eq {b : Bool} {i : Instr} {s t u : State} (h : Performs b i s t) (hu : exec i s = .next u) :
    onlyIf b u s = t := by
  cases b
  · exact Eq.symm h
  · exact Host.Outcome.next.inj (hu.symm.trans h)

/-! ## Levels that arrive -/

/-- RX_TICKs one after another are the fold of the operation. -/
theorem runAll_rxTicks (ls : List Bool) (s : State) : runAll (ls.map .rxTick) s = .next (rxLevels ls s) := by
  induction ls generalizing s with
  | nil => rfl
  | cons l ls ih => exact ih (rxTickOp l s)

theorem rxLevels_append (ls ks : List Bool) (s : State) : rxLevels (ls ++ ks) s = rxLevels ks (rxLevels ls s) :=
  List.foldl_append

/-- Characters one after another are their slots one after another. -/
theorem foldl_rxChar (bs : List Byte) (s : State) :
    bs.foldl (fun t b => rxChar b t) s = rxLevels (bs.flatMap charSlots) s := by
  induction bs generalizing s with
  | nil => rfl
  | cons b bs ih => exact (ih (rxChar b s)).trans (rxLevels_append (charSlots b) _ s).symm

/-! ## States a step starts from -/

theorem countsFit_iff (s : State) : countsFit s = true ↔ s.rxCnt < s.cfg.bitDiv ∧ s.txCnt < s.cfg.bitDiv := by
  simp only [countsFit, Bool.and_eq_true, Bool.not_eq_true', decide_eq_false_iff_not, Config.bitDiv]
  omega

/-- The invariant rules out every state that a step refuses. -/
theorem State.Inv.launchable {s : State} (h : s.Inv) : Sys2Proof.Machine.launchable s = true := by
  have hc := (countsFit_iff s).mpr ⟨h.rxCntRange, h.txCntRange⟩
  have he := h.endPosition
  have hi := h.idleEnvelope
  simp only [Sys2Proof.Machine.launchable, hc, Bool.and_true, Bool.and_eq_true, Bool.or_eq_true, bne_iff_ne, ne_eq, beq_iff_eq,
    Bool.not_eq_true']
  refine ⟨?_, ?_⟩
  · by_cases h8 : s.txByte.val = 8
    · exact .inr (he h8)
    · exact .inl h8
  · cases hb : s.txBusy
    · exact .inr (hi hb)
    · exact .inl rfl

theorem driveSlot_launchable {bit : Bool} {s : State} (hb : s.txBusy = true) (h : s.txByte.val < 8)
    (hl : Sys2Proof.Machine.launchable s = true) : Sys2Proof.Machine.launchable (driveSlot bit s h) = true := by
  simp only [Sys2Proof.Machine.launchable, Bool.and_eq_true, hb, Bool.true_or, and_true] at hl
  rcases driveSlot_cases bit s h with ⟨_, hd⟩ | ⟨-, hd⟩ <;> rw [hd]
  · simp only [Sys2Proof.Machine.launchable, hb, Bool.true_or, Bool.and_true, Bool.and_eq_true]
    exact ⟨by simp [Nat.ne_of_lt h], hl.2⟩
  · simp only [Sys2Proof.Machine.launchable, hb, Bool.true_or, Bool.and_true, Bool.and_eq_true]
    exact ⟨by simp, hl.2⟩

/-- A TX_TICK keeps a state a step can start from. -/
theorem txTickOp_launchable {s : State} (hl : Sys2Proof.Machine.launchable s = true) :
    Sys2Proof.Machine.launchable (txTickOp s) = true := by
  rcases txTickOp_cases s with ⟨-, h⟩ | ⟨hb, -, h⟩ | ⟨hb, h8, h⟩ <;> rw [h]
  · exact hl
  · simp only [Sys2Proof.Machine.launchable, Bool.and_eq_true] at hl ⊢
    exact ⟨⟨hl.1.1, by simp⟩, hl.2⟩
  · exact driveSlot_launchable hb h8 hl

theorem txTickOp_sendResp (s : State) : (txTickOp s).sendResp = s.sendResp := by
  rcases txTickOp_cases s with ⟨-, h⟩ | ⟨-, -, h⟩ | ⟨-, h8, h⟩ <;> rw [h]
  rcases driveSlot_cases (slotHere s h8) s h8 with ⟨_, hd⟩ | ⟨-, hd⟩ <;> rw [hd]

/-- Taking off nothing and clearing no response changes nothing. -/
theorem fetched_steady {s : State} (ht : s.trace = []) (hs : s.sendResp = none) (hr : s.readResp = none) :
    fetched [] s = s := by
  cases s
  simp only at ht hs hr
  simp only [fetched, ht, hs, hr]

/-- A timeless TX_TICK as the next step. -/
theorem step_evTxTick {s : State} (hl : Sys2Proof.Machine.launchable s = true) :
    step { s with trace := [⟨.ev, 0b0000001#80⟩] } = .next (txTickOp (fetched [] s)) := by
  have h : Sys2Proof.Machine.launchable { s with trace := [⟨.ev, 0b0000001#80⟩] } = true := hl
  have hf : fetched [] { s with trace := [⟨.ev, 0b0000001#80⟩] } = fetched [] s := rfl
  simp only [step, nextStep, h, if_true, runCode, hf]
  cases hb : s.txBusy
  · rw [show evOps 0b0000001#80 (fetched [] s) = [.nop] from by
      rw [show evOps 0b0000001#80 (fetched [] s) = (match pick s.txBusy .txTick with | [] => [.nop] | i :: is => i :: is) from rfl,
        hb]; rfl]
    have : txTickOp (fetched [] s) = fetched [] s := by simp [txTickOp, txRuns, fetched, hb]
    rw [this]
    rfl
  · rw [show evOps 0b0000001#80 (fetched [] s) = [.txTick] from by
      rw [show evOps 0b0000001#80 (fetched [] s) = (match pick s.txBusy .txTick with | [] => [.nop] | i :: is => i :: is) from rfl,
        hb]; rfl]
    rfl

/-! ## Runs of edges -/

theorem afterEdges_nil (s t : State) : AfterEdges s [] t ↔ t = { s with trace := [] } := by
  simp only [AfterEdges, edgeTrace, List.length_nil, Host.Core.run, List.map_nil, Host.Outcome.next.injEq]
  exact eq_comm

theorem afterEdges_cons {s : State} (t : State) (e : BitVec 80) (es : List (BitVec 80)) (h : launchable s = true) :
    AfterEdges s (e :: es) t ↔ ∃ u, clkEdge e (fetched (edgeTrace es) s) = .next u ∧ AfterEdges u es t := by
  have hl : launchable { s with trace := edgeTrace (e :: es) } = true := h
  have hs : step { s with trace := edgeTrace (e :: es) } = clkEdge e (fetched (edgeTrace es) s) := by
    simp only [step, nextStep, hl, if_true]
    rfl
  simp only [AfterEdges, List.length_cons, Host.Core.run, hs]
  cases hu : clkEdge e (fetched (edgeTrace es) s) with
  | next u =>
    have ht : { u with trace := edgeTrace es } = u := by
      have := (clkEdge_keeps hu).2.2
      rw [show edgeTrace es = u.trace from this.symm]
    constructor
    · exact fun k => ⟨u, rfl, by rw [ht]; exact k⟩
    · rintro ⟨v, hv, k⟩
      cases hv
      rw [ht] at k
      exact k
  | fault r => exact ⟨fun k => (nomatch k), fun ⟨_, k, _⟩ => (nomatch k)⟩
  | refused r => exact ⟨fun k => (nomatch k), fun ⟨_, k, _⟩ => (nomatch k)⟩

end Sys2Proof.Machine
end

