-- ==== Sys2Proof/Laws/PerInstr.lean ====
section
/-! SUPPORT. Per instruction: its code's bits lie within the width of its format (30_encoding.md R80, with the operand bits of
log 8). -/

namespace Sys2Proof.Laws

/-- The width of a format: R80's, or with the operand bits that stand beside EV and SEND's HSD. -/
def codeWidth : Format → Nat
  | .ev | .hsdSend => 64
  | .clk => 16
  | .rxd | .callByteDone => 6
  | .syd | .callFrameEmit => 5
  | .txd | .callBcStop => 8
  | .hsdMbRead | .hsdEmit | .callMbWrite => 1
  | .hsdInitRx | .hsdInitTx | .callBcStartRx => 3
  | .callBcStartTx => 2
  | .char => 10
  | .frame | .ivl => 80
  | .id48 => 48

/-- The bits of an instruction's code fit its format. -/
def EncodingFits.Statement (i : Instr) : Prop := (encode i).bits.toNat < 2 ^ codeWidth (encode i).fmt

theorem fieldAt_toNat_lt {w : Nat} (x : BitVec w) (n k : Nat) (h : w + n ≤ k) : (fieldAt x n).toNat < 2 ^ k := by
  have hx : x.toNat < 2 ^ w := x.isLt
  have hshift : x.toNat * 2 ^ n < 2 ^ k :=
    calc x.toNat * 2 ^ n < 2 ^ w * 2 ^ n := Nat.mul_lt_mul_of_pos_right hx (Nat.two_pow_pos n)
      _ = 2 ^ (w + n) := (Nat.pow_add 2 w n).symm
      _ ≤ 2 ^ k := Nat.pow_le_pow_right (by decide) h
  have hmod : (x.toNat % 2 ^ 80) * 2 ^ n ≤ x.toNat * 2 ^ n := Nat.mul_le_mul_right _ (Nat.mod_le _ _)
  simp only [fieldAt, BitVec.toNat_shiftLeft, BitVec.toNat_setWidth, Nat.shiftLeft_eq]
  exact lt_of_le_of_lt (Nat.mod_le _ _) (lt_of_le_of_lt hmod hshift)

theorem or_toNat_lt {x y : BitVec 80} {k : Nat} (hx : x.toNat < 2 ^ k) (hy : y.toNat < 2 ^ k) : (x ||| y).toNat < 2 ^ k := by
  rw [BitVec.toNat_or]
  exact Nat.or_lt_two_pow hx hy

theorem evBits_toNat_lt (ev : BitVec 7) (l r t : Bool) (id : Ident) : (evBits ev l r t id).toNat < 2 ^ 64 :=
  or_toNat_lt (fieldAt_toNat_lt _ 0 64 (by decide)) (fieldAt_toNat_lt _ 16 64 (by decide))

theorem txdBits_toNat_lt (y slot : BitVec 4) : (txdBits y slot).toNat < 2 ^ 8 :=
  or_toNat_lt (fieldAt_toNat_lt _ 0 8 (by decide)) (fieldAt_toNat_lt _ 4 8 (by decide))

theorem EncodingFits.reset : EncodingFits.Statement .reset :=
  evBits_toNat_lt _ _ _ _ _
theorem EncodingFits.mbRead : EncodingFits.Statement .mbRead :=
  evBits_toNat_lt _ _ _ _ _
theorem EncodingFits.send (id : Ident) : EncodingFits.Statement (.send id) :=
  evBits_toNat_lt _ _ _ _ _
theorem EncodingFits.initRx (ok : Bool) : EncodingFits.Statement (.initRx ok) :=
  evBits_toNat_lt _ _ _ _ _
theorem EncodingFits.initTx (ok : Bool) : EncodingFits.Statement (.initTx ok) :=
  evBits_toNat_lt _ _ _ _ _
theorem EncodingFits.rxTick (level : Bool) : EncodingFits.Statement (.rxTick level) :=
  evBits_toNat_lt _ _ _ _ _
theorem EncodingFits.txTick : EncodingFits.Statement .txTick :=
  evBits_toNat_lt _ _ _ _ _
theorem EncodingFits.nop : EncodingFits.Statement .nop :=
  evBits_toNat_lt _ _ _ _ _
theorem EncodingFits.bcClk : EncodingFits.Statement .bcClk := by
  unfold EncodingFits.Statement; decide
theorem EncodingFits.rxTickIdleHigh : EncodingFits.Statement .rxTickIdleHigh := by
  unfold EncodingFits.Statement; decide
theorem EncodingFits.rxTickStart : EncodingFits.Statement .rxTickStart := by
  unfold EncodingFits.Statement; decide
theorem EncodingFits.rxTickData (idx : BitVec 4) (v : Bool) : EncodingFits.Statement (.rxTickData idx v) :=
  or_toNat_lt (or_toNat_lt (fieldAt_toNat_lt _ 0 6 (by decide)) (fieldAt_toNat_lt _ 1 6 (by decide))) (fieldAt_toNat_lt _ 5 6 (by decide))
theorem EncodingFits.rxTickStop (level : Bool) : EncodingFits.Statement (.rxTickStop level) :=
  or_toNat_lt (or_toNat_lt (fieldAt_toNat_lt _ 0 6 (by decide)) (fieldAt_toNat_lt _ 1 6 (by decide))) (fieldAt_toNat_lt _ 5 6 (by decide))
theorem EncodingFits.byteDoneWp1Hit : EncodingFits.Statement .byteDoneWp1Hit := by
  unfold EncodingFits.Statement; decide
theorem EncodingFits.byteDoneWp1Miss : EncodingFits.Statement .byteDoneWp1Miss := by
  unfold EncodingFits.Statement; decide
theorem EncodingFits.byteDoneWp2Hit : EncodingFits.Statement .byteDoneWp2Hit := by
  unfold EncodingFits.Statement; decide
theorem EncodingFits.byteDoneWp2Miss : EncodingFits.Statement .byteDoneWp2Miss := by
  unfold EncodingFits.Statement; decide
theorem EncodingFits.byteDoneColStore : EncodingFits.Statement .byteDoneColStore := by
  unfold EncodingFits.Statement; decide
theorem EncodingFits.byteDoneColLast : EncodingFits.Statement .byteDoneColLast := by
  unfold EncodingFits.Statement; decide
theorem EncodingFits.txTickStart (y : BitVec 4) : EncodingFits.Statement (.txTickStart y) :=
  txdBits_toNat_lt _ _
theorem EncodingFits.txTickDataD0 (y : BitVec 4) : EncodingFits.Statement (.txTickDataD0 y) :=
  txdBits_toNat_lt _ _
theorem EncodingFits.txTickDataD1 (y : BitVec 4) : EncodingFits.Statement (.txTickDataD1 y) :=
  txdBits_toNat_lt _ _
theorem EncodingFits.txTickDataD2 (y : BitVec 4) : EncodingFits.Statement (.txTickDataD2 y) :=
  txdBits_toNat_lt _ _
theorem EncodingFits.txTickDataD3 (y : BitVec 4) : EncodingFits.Statement (.txTickDataD3 y) :=
  txdBits_toNat_lt _ _
theorem EncodingFits.txTickDataD4 (y : BitVec 4) : EncodingFits.Statement (.txTickDataD4 y) :=
  txdBits_toNat_lt _ _
theorem EncodingFits.txTickDataD5 (y : BitVec 4) : EncodingFits.Statement (.txTickDataD5 y) :=
  txdBits_toNat_lt _ _
theorem EncodingFits.txTickDataD6 (y : BitVec 4) : EncodingFits.Statement (.txTickDataD6 y) :=
  txdBits_toNat_lt _ _
theorem EncodingFits.txTickDataD7 (y : BitVec 4) : EncodingFits.Statement (.txTickDataD7 y) :=
  txdBits_toNat_lt _ _
theorem EncodingFits.txTickStop (y : BitVec 4) : EncodingFits.Statement (.txTickStop y) :=
  txdBits_toNat_lt _ _
theorem EncodingFits.txTickEnd : EncodingFits.Statement .txTickEnd := by
  unfold EncodingFits.Statement; decide
theorem EncodingFits.sendAccept (id : Ident) : EncodingFits.Statement (.sendAccept id) :=
  or_toNat_lt (fieldAt_toNat_lt _ 0 64 (by decide)) (fieldAt_toNat_lt _ 16 64 (by decide))
theorem EncodingFits.sendRejectDisabled : EncodingFits.Statement .sendRejectDisabled := by
  unfold EncodingFits.Statement; decide
theorem EncodingFits.sendRejectBusy : EncodingFits.Statement .sendRejectBusy := by
  unfold EncodingFits.Statement; decide
theorem EncodingFits.mbReadFull : EncodingFits.Statement .mbReadFull := by
  unfold EncodingFits.Statement; decide
theorem EncodingFits.mbReadEmpty : EncodingFits.Statement .mbReadEmpty := by
  unfold EncodingFits.Statement; decide
theorem EncodingFits.initRxOk : EncodingFits.Statement .initRxOk := by
  unfold EncodingFits.Statement; decide
theorem EncodingFits.initRxFail : EncodingFits.Statement .initRxFail := by
  unfold EncodingFits.Statement; decide
theorem EncodingFits.initRxIgnoredEnabled : EncodingFits.Statement .initRxIgnoredEnabled := by
  unfold EncodingFits.Statement; decide
theorem EncodingFits.initRxIgnoredFailed : EncodingFits.Statement .initRxIgnoredFailed := by
  unfold EncodingFits.Statement; decide
theorem EncodingFits.initTxOk : EncodingFits.Statement .initTxOk := by
  unfold EncodingFits.Statement; decide
theorem EncodingFits.initTxFail : EncodingFits.Statement .initTxFail := by
  unfold EncodingFits.Statement; decide
theorem EncodingFits.initTxIgnoredEnabled : EncodingFits.Statement .initTxIgnoredEnabled := by
  unfold EncodingFits.Statement; decide
theorem EncodingFits.initTxIgnoredFailed : EncodingFits.Statement .initTxIgnoredFailed := by
  unfold EncodingFits.Statement; decide
theorem EncodingFits.frameEmitDrop : EncodingFits.Statement .frameEmitDrop := by
  unfold EncodingFits.Statement; decide
theorem EncodingFits.frameEmitForward : EncodingFits.Statement .frameEmitForward := by
  unfold EncodingFits.Statement; decide
theorem EncodingFits.bcStartRx : EncodingFits.Statement .bcStartRx := by
  unfold EncodingFits.Statement; decide
theorem EncodingFits.bcStartTx : EncodingFits.Statement .bcStartTx := by
  unfold EncodingFits.Statement; decide
theorem EncodingFits.bcStop : EncodingFits.Statement .bcStop := by
  unfold EncodingFits.Statement; decide
theorem EncodingFits.byteDone : EncodingFits.Statement .byteDone := by
  unfold EncodingFits.Statement; decide
theorem EncodingFits.frameEmit : EncodingFits.Statement .frameEmit := by
  unfold EncodingFits.Statement; decide
theorem EncodingFits.mbWrite : EncodingFits.Statement .mbWrite := by
  unfold EncodingFits.Statement; decide
theorem EncodingFits.char (b : Byte) : EncodingFits.Statement (.char b) :=
  fieldAt_toNat_lt _ 0 10 (by decide)
theorem EncodingFits.frame (id : Ident) : EncodingFits.Statement (.frame id) :=
  (encode (.frame id)).bits.isLt
theorem EncodingFits.id48 (id : Ident) : EncodingFits.Statement (.id48 id) :=
  fieldAt_toNat_lt _ 0 48 (by decide)
theorem EncodingFits.ivl (id : Ident) : EncodingFits.Statement (.ivl id) :=
  (encode (.ivl id)).bits.isLt

end Sys2Proof.Laws
end

