-- ==== Sys2Proof/Tests/Slice0.lean ====
section
/-! SUPPORT. The model's own tests: ill-formed terms refused, a word of every row, one-step vectors of 95_test_vectors.md, and
for every statement with hypotheses a state and operands that meet them. -/

namespace Sys2Proof.Tests

open Sys2Proof Sys2Proof.Machine

/-! ## Ill-formed terms are refused -/

theorem test_wf_rxTickData : (Instr.rxTickData 8#4 true).wf = false := by decide
theorem test_wf_txTickStart : (Instr.txTickStart 8#4).wf = false := by decide
theorem test_wf_txTickDataD0 : (Instr.txTickDataD0 8#4).wf = false := by decide
theorem test_wf_txTickDataD1 : (Instr.txTickDataD1 9#4).wf = false := by decide
theorem test_wf_txTickDataD2 : (Instr.txTickDataD2 10#4).wf = false := by decide
theorem test_wf_txTickDataD3 : (Instr.txTickDataD3 11#4).wf = false := by decide
theorem test_wf_txTickDataD4 : (Instr.txTickDataD4 12#4).wf = false := by decide
theorem test_wf_txTickDataD5 : (Instr.txTickDataD5 13#4).wf = false := by decide
theorem test_wf_txTickDataD6 : (Instr.txTickDataD6 14#4).wf = false := by decide
theorem test_wf_txTickDataD7 : (Instr.txTickDataD7 15#4).wf = false := by decide
theorem test_wf_txTickStop : (Instr.txTickStop 8#4).wf = false := by decide

/-! ## A word of every row, written out from its pattern (30_encoding.md R81, R82, R88, R90 to R94, R101) -/

/-- Whether a format and its bits decode to a row. -/
def reads (f : Format) (bits : BitVec 80) (i : Instr) : Bool :=
  match decode ⟨f, bits⟩ with
  | .ok j => i == j
  | .error _ => false

/-- Whether a format and its bits name no row, for this reason. -/
def rejects (f : Format) (bits : BitVec 80) (why : Reject) : Bool :=
  match decode ⟨f, bits⟩ with
  | .ok _ => false
  | .error w => w == why

-- EV: rst mb_rd send_req init_rx init_tx rx_tick tx_tick. Operands above: rx_in bit 8, init_rx_ok 9, init_tx_ok 10, send_id 63..16.
theorem test_decode_reset : reads .ev 0b1000000#80 .reset = true := by decide
theorem test_decode_reset_overrides : reads .ev 0b1111111#80 .reset = true := by decide
theorem test_decode_mbRead : reads .ev 0b0100000#80 .mbRead = true := by decide
theorem test_decode_send : reads .ev 0x0605040302010010#80 (.send 0x060504030201#48) = true := by decide
theorem test_decode_initRx : reads .ev 0b010_0_0001000#80 (.initRx true) = true := by decide
theorem test_decode_initTx : reads .ev 0b100_0_0000100#80 (.initTx true) = true := by decide
theorem test_decode_rxTick : reads .ev 0b001_0_0000010#80 (.rxTick true) = true := by decide
theorem test_decode_txTick : reads .ev 0b0000001#80 .txTick = true := by decide
theorem test_decode_nop : reads .ev 0b0000000#80 .nop = true := by decide
theorem test_decode_several : rejects .ev 0b0110000#80 .severalOperations = true := by decide
theorem test_decode_bcClk : reads .clk 0b0000000#80 .bcClk = true := by decide
-- RXD: rx_busy rx_idx[3:0] level
theorem test_decode_rxTickIdleHigh : reads .rxd 0b0_1111_1#80 .rxTickIdleHigh = true := by decide
theorem test_decode_rxTickStart : reads .rxd 0b0_1000_0#80 .rxTickStart = true := by decide
theorem test_decode_rxTickData : reads .rxd 0b1_0110_1#80 (.rxTickData 6#4 true) = true := by decide
theorem test_decode_rxTickStop : reads .rxd 0b1_1000_1#80 (.rxTickStop true) = true := by decide
theorem test_decode_rxd_unreachable : rejects .rxd 0b1_1001_0#80 .unreachablePattern = true := by decide
-- SYD: sy_state[1:0] eq1 eq2 last
theorem test_decode_byteDoneWp1Hit : reads .syd 0b00_1_0_1#80 .byteDoneWp1Hit = true := by decide
theorem test_decode_byteDoneWp1Miss : reads .syd 0b00_0_1_0#80 .byteDoneWp1Miss = true := by decide
theorem test_decode_byteDoneWp2Hit : reads .syd 0b01_0_1_0#80 .byteDoneWp2Hit = true := by decide
theorem test_decode_byteDoneWp2Miss : reads .syd 0b01_1_0_1#80 .byteDoneWp2Miss = true := by decide
theorem test_decode_byteDoneColStore : reads .syd 0b10_1_0_0#80 .byteDoneColStore = true := by decide
theorem test_decode_byteDoneColLast : reads .syd 0b10_0_1_1#80 .byteDoneColLast = true := by decide
theorem test_decode_syd_unreachable : rejects .syd 0b11_0_0_0#80 .unreachablePattern = true := by decide
-- TXD: tx_byte[3:0] tx_bit[3:0]
theorem test_decode_txTickStart : reads .txd 0b0101_0000#80 (.txTickStart 5#4) = true := by decide
theorem test_decode_txTickDataD0 : reads .txd 0b0111_0001#80 (.txTickDataD0 7#4) = true := by decide
theorem test_decode_txTickDataD1 : reads .txd 0b0001_0010#80 (.txTickDataD1 1#4) = true := by decide
theorem test_decode_txTickDataD2 : reads .txd 0b0010_0011#80 (.txTickDataD2 2#4) = true := by decide
theorem test_decode_txTickDataD3 : reads .txd 0b0011_0100#80 (.txTickDataD3 3#4) = true := by decide
theorem test_decode_txTickDataD4 : reads .txd 0b0100_0101#80 (.txTickDataD4 4#4) = true := by decide
theorem test_decode_txTickDataD5 : reads .txd 0b0101_0110#80 (.txTickDataD5 5#4) = true := by decide
theorem test_decode_txTickDataD6 : reads .txd 0b0110_0111#80 (.txTickDataD6 6#4) = true := by decide
theorem test_decode_txTickDataD7 : reads .txd 0b0000_1000#80 (.txTickDataD7 0#4) = true := by decide
theorem test_decode_txTickStop : reads .txd 0b0111_1001#80 (.txTickStop 7#4) = true := by decide
theorem test_decode_txTickEnd : reads .txd 0b1000_0000#80 .txTickEnd = true := by decide
theorem test_decode_txd_unreachable : rejects .txd 0b1000_0001#80 .unreachablePattern = true := by decide
-- HSD: SEND tx_en tx_busy; MB_READ mb_ready; INIT enable, error, ok; FRAME_EMIT same
theorem test_decode_sendAccept : reads .hsdSend 0x0605040302010002#80 (.sendAccept 0x060504030201#48) = true := by decide
theorem test_decode_sendRejectDisabled : reads .hsdSend 0b01#80 .sendRejectDisabled = true := by decide
theorem test_decode_sendRejectBusy : reads .hsdSend 0b11#80 .sendRejectBusy = true := by decide
theorem test_decode_mbReadFull : reads .hsdMbRead 0b1#80 .mbReadFull = true := by decide
theorem test_decode_mbReadEmpty : reads .hsdMbRead 0b0#80 .mbReadEmpty = true := by decide
theorem test_decode_initRxOk : reads .hsdInitRx 0b001#80 .initRxOk = true := by decide
theorem test_decode_initRxFail : reads .hsdInitRx 0b000#80 .initRxFail = true := by decide
theorem test_decode_initRxIgnoredEnabled : reads .hsdInitRx 0b101#80 .initRxIgnoredEnabled = true := by decide
theorem test_decode_initRxIgnoredFailed : reads .hsdInitRx 0b011#80 .initRxIgnoredFailed = true := by decide
theorem test_decode_initTxOk : reads .hsdInitTx 0b001#80 .initTxOk = true := by decide
theorem test_decode_initTxFail : reads .hsdInitTx 0b000#80 .initTxFail = true := by decide
theorem test_decode_initTxIgnoredEnabled : reads .hsdInitTx 0b110#80 .initTxIgnoredEnabled = true := by decide
theorem test_decode_initTxIgnoredFailed : reads .hsdInitTx 0b010#80 .initTxIgnoredFailed = true := by decide
theorem test_decode_frameEmitDrop : reads .hsdEmit 0b1#80 .frameEmitDrop = true := by decide
theorem test_decode_frameEmitForward : reads .hsdEmit 0b0#80 .frameEmitForward = true := by decide
-- The internal operations, with the pattern of the sub-case that calls them
theorem test_decode_bcStartRx : reads .callBcStartRx 0b001#80 .bcStartRx = true := by decide
theorem test_decode_bcStartTx : reads .callBcStartTx 0b10#80 .bcStartTx = true := by decide
theorem test_decode_bcStop : reads .callBcStop 0b1000_0000#80 .bcStop = true := by decide
theorem test_decode_byteDone : reads .callByteDone 0b1_1000_1#80 .byteDone = true := by decide
theorem test_decode_frameEmit : reads .callFrameEmit 0b10_1_0_1#80 .frameEmit = true := by decide
theorem test_decode_mbWrite : reads .callMbWrite 0b0#80 .mbWrite = true := by decide
theorem test_decode_call_miss : rejects .callMbWrite 0b1#80 .notThePattern = true := by decide
-- The wire: the characters of V20, the frames of P1 and V21
theorem test_decode_char : reads .char 0b0101001011#80 (.char 0xA5#8) = true := by decide
theorem test_decode_char_order : reads .char 0b0100000001#80 (.char 0x01#8) = true := by decide
theorem test_decode_char_stop_low : rejects .char 0b0101001010#80 .notThePattern = true := by decide
theorem test_decode_frame :
    reads .frame
      0b0010110101_0001010101_0100000001_0010000001_0110000001_0001000001_0101000001_0011000001#80
      (.frame 0x060504030201#48) = true := by decide
theorem test_decode_id48 : reads .id48 0x060504030201#80 (.id48 0x060504030201#48) = true := by decide
theorem test_decode_ivl : reads .ivl 0xD2BAABFB7E9FBBEAFB3E#80 (.ivl 0x060504030201#48) = true := by decide

/-- V21: the interval list of the identity 01 .. 06, its 21 pairs. -/
theorem test_intervals_peer :
    intervals 0x060504030201#48 =
      [(2, 1), (1, 2), (1, 1), (1, 1), (3, 1), (1, 1), (1, 1), (1, 1), (1, 1), (7, 1), (2, 1), (6, 1), (1, 2), (6, 1), (3, 1),
        (5, 1), (1, 1), (1, 1), (5, 1), (2, 2), (5, 1)] := by decide

/-! ## One-step vectors of 95_test_vectors.md, LOCAL = 11 .. 66, BIT_DIV = 4 -/

/-- The reset state of the device of 95_test_vectors.md. -/
def demo : State := { State.reset with cfg := ⟨0x665544332211#48, 3, 9⟩ }

/-- Receiving and transmitting roles initialised. -/
def ready : State := { demo with rxEn := true, txEn := true }

/-- Sending the identity 01 .. 06, at byte `y`, slot `k`. -/
def sending (y : Fin 9) (k : Fin 10) : State :=
  { ready with txBusy := true, txFrame := frameBytes 0x060504030201#48, txByte := y, txBit := k }

/-- Receiving, at sample index `k`, with the byte assembled so far. -/
def receiving (k : Fin 9) (b : Byte) : State := { ready with rxBusy := true, rxIdx := k, rxByte := b }

/-- A byte complete, the Synchronizer in state `sy` with `pl` = 11 22 33 44 55 - at index `n`. -/
def completed (sy : SyncState) (n : Fin 6) (b : Byte) : State :=
  { receiving 8 b with syState := sy, plIdx := n, pl := #v[0x11#8, 0x22#8, 0x33#8, 0x44#8, 0x55#8, 0#8] }

/-- A mailbox that holds A6 .. A1. -/
def full : State := { ready with mbReady := true, mbSlot := 0xA6A5A4A3A2A1#48 }

/-- Whether an outcome is this next state. -/
def goesTo (o : Host.Outcome State Fault Refusal) (t : State) : Bool :=
  match o with
  | .next u => u == t
  | .fault _ => false
  | .refused _ => false

/-- The next state of an outcome, to read a field of it. -/
def nextOf (o : Host.Outcome State Fault Refusal) : State :=
  match o with
  | .next u => u
  | .fault _ => demo
  | .refused _ => demo

/-- The outcome of a row on the demo device. -/
def after (i : Instr) (s : State) : State := nextOf (exec i s)

-- V10, V12, V13: BC_CLK
theorem test_bcClk_counts : goesTo (exec .bcClk ready) { ready with rxCnt := 1 } = true := by decide
theorem test_bcClk_ticks : (after .bcClk { sending 8 0 with txCnt := 3 }).txBusy = false := by decide
theorem test_nop : goesTo (exec .nop (sending 3 4)) (sending 3 4) = true := by decide
-- V11, V22, V23, V24: SEND
theorem test_send_accept :
    goesTo (exec (.send 0x060504030201#48) { ready with txCnt := 3 }) { sending 0 0 with sendResp := some true } = true := by decide
theorem test_send_busy :
    goesTo (exec (.send 0x665544332211#48) (sending 4 0)) { sending 4 0 with sendResp := some false } = true := by decide
theorem test_sendAccept : (after (.sendAccept 0x060504030201#48) ready).txFrame[2] = 0x01#8 := by decide
theorem test_sendRejectDisabled : (after .sendRejectDisabled demo).sendResp = some false := by decide
theorem test_sendRejectBusy : (after .sendRejectBusy (sending 0 0)).sendResp = some false := by decide
theorem test_bcStartTx : (after .bcStartTx { ready with txCnt := 3 }).txCnt = 0 := by decide
theorem test_bcStartRx : (after .bcStartRx { demo with rxCnt := 3 }).rxCnt = 0 := by decide
-- V14 to V16: INIT
theorem test_initRx_ok : goesTo (exec (.initRx true) demo) { demo with rxEn := true } = true := by decide
theorem test_initRx_failed_is_final :
    goesTo (exec (.initRx true) { demo with rxErr := true }) { demo with rxErr := true } = true := by decide
theorem test_initTx_fail : goesTo (exec (.initTx false) demo) { demo with txErr := true } = true := by decide
theorem test_initRxOk : (after .initRxOk demo).rxEn = true := by decide
theorem test_initRxFail : (after .initRxFail demo).rxErr = true := by decide
theorem test_initTxOk : (after .initTxOk demo).txEn = true := by decide
theorem test_initTxFail : (after .initTxFail demo).txErr = true := by decide
theorem test_initIgnored :
    goesTo (exec .initRxIgnoredEnabled ready) ready && goesTo (exec .initTxIgnoredEnabled ready) ready &&
      goesTo (exec .initRxIgnoredFailed { demo with rxErr := true }) { demo with rxErr := true } &&
      goesTo (exec .initTxIgnoredFailed { demo with txErr := true }) { demo with txErr := true } = true := by decide
-- V20, V25, V26: TX_TICK; 0x01 = slots 0100000001, 0x06 = slots 0011000001
theorem test_txTick_start : goesTo (exec .txTick (sending 2 0)) { sending 2 1 with txEnv := true } = true := by decide
theorem test_txTick_stop :
    goesTo (exec .txTick { sending 7 9 with txEnv := true }) (sending 8 0) = true := by decide
theorem test_txTick_end : goesTo (exec .txTick (sending 8 0)) { sending 8 0 with txBusy := false } = true := by decide
theorem test_txTickStart : (after (.txTickStart 2#4) (sending 2 0)).txEnv = true := by decide
theorem test_txTickDataD0 : (after (.txTickDataD0 2#4) { sending 2 1 with txEnv := true }).txEnv = false := by decide
theorem test_txTickDataD1 : (after (.txTickDataD1 7#4) { sending 7 2 with txEnv := true }).txEnv = false := by decide
theorem test_txTickDataD2 : (after (.txTickDataD2 7#4) { sending 7 3 with txEnv := true }).txEnv = false := by decide
theorem test_txTickDataD3 : (after (.txTickDataD3 0#4) { sending 0 4 with txEnv := true }).txEnv = false := by decide
theorem test_txTickDataD4 : (after (.txTickDataD4 0#4) { sending 0 5 with txEnv := true }).txEnv = false := by decide
theorem test_txTickDataD5 : (after (.txTickDataD5 0#4) (sending 0 6)).txEnv = true := by decide
theorem test_txTickDataD6 : (after (.txTickDataD6 0#4) { sending 0 7 with txEnv := true }).txEnv = false := by decide
theorem test_txTickDataD7 : (after (.txTickDataD7 0#4) (sending 0 8)).txEnv = true := by decide
theorem test_txTickStop : goesTo (exec (.txTickStop 3#4) { sending 3 9 with txEnv := true }) (sending 4 0) = true := by decide
theorem test_txTickEnd : (after .txTickEnd (sending 8 0)).txBusy = false := by decide
theorem test_txTickStart_elsewhere : goesTo (exec (.txTickStart 3#4) (sending 2 0)) (sending 2 0) = true := by decide
theorem test_bcStop : goesTo (exec .bcStop (sending 8 0)) (sending 8 0) = true := by decide
-- V30 to V38: RX_TICK
theorem test_rxTick_start : goesTo (exec (.rxTick false) { ready with rxByte := 0xFF#8 }) (receiving 0 0#8) = true := by decide
theorem test_rxTick_idle_high : goesTo (exec (.rxTick true) ready) ready = true := by decide
theorem test_rxTickStart : goesTo (exec .rxTickStart { ready with rxByte := 0xFF#8 }) (receiving 0 0#8) = true := by decide
theorem test_rxTickIdleHigh : goesTo (exec .rxTickIdleHigh ready) ready = true := by decide
theorem test_rxTickData : goesTo (exec (.rxTickData 5#4 true) (receiving 5 0x05#8)) (receiving 6 0x25#8) = true := by decide
theorem test_rxTickData_low : goesTo (exec (.rxTickData 7#4 false) (receiving 7 0x25#8)) (receiving 8 0x25#8) = true := by decide
theorem test_rxTickStop_low :
    goesTo (exec (.rxTickStop false) (receiving 8 0xA5#8)) { receiving 8 0xA5#8 with rxBusy := false } = true := by decide
theorem test_rxTick_disabled : goesTo (exec (.rxTick false) demo) demo = true := by decide
-- V40 to V48: BYTE_DONE
theorem test_byteDoneWp1Hit : (after .byteDoneWp1Hit (completed .wp1 0 0x5A#8)).syState = .wp2 := by decide
theorem test_byteDoneWp1Miss : (after .byteDoneWp1Miss (completed .wp1 0 0x54#8)).syState = .wp1 := by decide
theorem test_byteDoneWp2Hit :
    goesTo (exec .byteDoneWp2Hit (completed .wp2 5 0x54#8)) (completed .col 0 0x54#8) = true := by decide
theorem test_byteDoneWp2Miss : (after .byteDoneWp2Miss (completed .wp2 0 0x5A#8)).syState = .wp1 := by decide
theorem test_byteDoneColStore :
    goesTo (exec .byteDoneColStore (completed .col 4 0x5A#8))
      { completed .col 5 0x5A#8 with pl := #v[0x11#8, 0x22#8, 0x33#8, 0x44#8, 0x5A#8, 0#8] } = true := by decide
theorem test_byteDoneColLast_local : (after .byteDoneColLast (completed .col 5 0x66#8)).mbReady = false := by decide
theorem test_byteDoneColLast_foreign : (after .byteDoneColLast (completed .col 5 0x67#8)).mbSlot = 0x675544332211#48 := by decide
theorem test_byteDone_wp2_again : (after .byteDone (completed .wp2 0 0x5A#8)).syState = .wp1 := by decide
theorem test_byteDone_last : (after .byteDone (completed .col 5 0x67#8)).syState = .wp1 := by decide
-- V50 to V52: FRAME_EMIT
theorem test_frameEmit_drop : goesTo (exec .frameEmit (completed .col 5 0x66#8)) (completed .col 5 0x66#8) = true := by decide
theorem test_frameEmit_one_bit : (after .frameEmit (completed .col 5 0x67#8)).mbReady = true := by decide
theorem test_frameEmitDrop : goesTo (exec .frameEmitDrop (completed .col 5 0x66#8)) (completed .col 5 0x66#8) = true := by decide
theorem test_frameEmitForward : (after .frameEmitForward (completed .col 5 0x67#8)).mbSlot = 0x675544332211#48 := by decide
-- V60 to V64: the mailbox
theorem test_mbWrite : (after .mbWrite (completed .col 5 0x67#8)).mbSlot = 0x675544332211#48 := by decide
theorem test_mbRead_full :
    goesTo (exec .mbRead full) { full with mbReady := false, readResp := some (some 0xA6A5A4A3A2A1#48) } = true := by decide
theorem test_mbRead_empty : goesTo (exec .mbRead demo) { demo with readResp := some none } = true := by decide
theorem test_mbReadFull : (after .mbReadFull full).mbReady = false := by decide
theorem test_mbReadEmpty : (after .mbReadEmpty demo).readResp = some none := by decide
theorem test_mb_data_pin : mbDataPin full = 0xA6A5A4A3A2A1#48 := by decide
-- V70 to V72: RESET
theorem test_reset :
    goesTo (exec .reset { sending 3 9 with txEnv := true })
      { demo with txFrame := frameBytes 0x060504030201#48 } = true := by decide
theorem test_reset_overrides :
    (nextOf (step { full with trace := [⟨.clk, 0b1110000#80⟩] })).readResp = none := by decide
-- The wire
theorem test_char : (after (.char 0x5A#8) ready).syState = .wp2 := by decide
theorem test_char_clears : (after (.char 0x00#8) { ready with rxByte := 0xFF#8 }).rxByte = 0x00#8 := by decide
set_option maxRecDepth 20000 in
theorem test_frame_foreign : (after (.frame 0x060504030201#48) ready).mbSlot = 0x060504030201#48 := by decide
set_option maxRecDepth 20000 in
theorem test_frame_local : (after (.frame 0x665544332211#48) ready).mbReady = false := by decide
theorem test_id48 : goesTo (exec (.id48 7#48) ready) { ready with sendIdPort := 7#48 } = true := by decide
theorem test_ivl :
    goesTo (exec (.ivl 0x060504030201#48) ready) { sending 8 0 with txBusy := false, sendResp := some true } = true := by decide
-- V64 and R229 at one edge
theorem test_edge_read_and_write :
    (nextOf (step { completed .col 5 0x67#8 with rxCnt := 3, mbReady := true, mbSlot := 9#48, trace := [⟨.clk, 0b0100000#80⟩] })).mbSlot
      = 0x675544332211#48 := by decide
/-- MB_READ, then RX_TICK, then the last TX_TICK, in one timeless step (R229). -/
theorem test_ev_several :
    (nextOf (step { completed .col 5 0x67#8 with
      mbReady := true, mbSlot := 9#48, txBusy := true, txByte := 8, trace := [⟨.ev, 0b0110011#80⟩] })).readResp
      = some (some 9#48) := by decide
theorem test_cntW :
    [0, 1, 3, 4, 255, 256].map (fun p => Config.cntW ⟨0#48, p, 0⟩) = [1, 1, 2, 3, 8, 9] := by decide
theorem test_edge_synchroniser :
    (nextOf (step { demo with rxMeta := 0b01#2, trace := [⟨.clk, 0x100#80⟩] })).rxMeta = 0b11#2 := by decide

/-! ## For every statement with hypotheses, a state and operands that meet them all -/

/-- The device with one entry on its trace. -/
def told (c : Code) (s : State) : State := { s with trace := [c] }

/-- BIT_DIV = 1: every edge is a tick. -/
def fast : State := { ready with cfg := ⟨0x665544332211#48, 0, 0⟩ }

/-- Whether an outcome is a next state. -/
def answers (o : Host.Outcome State Fault Refusal) : Bool :=
  match o with
  | .next _ => true
  | .fault _ => false
  | .refused _ => false

theorem answers_next {o : Host.Outcome State Fault Refusal} (h : answers o = true) : ∃ t, o = .next t := by
  match o, h with
  | .next t, _ => exact ⟨t, rfl⟩

theorem inv_ready : ready.Inv := by constructor <;> decide
theorem inv_fast : fast.Inv := by constructor <;> decide
theorem inv_sending : (sending 0 0).Inv := by constructor <;> decide
theorem inv_full : full.Inv := by constructor <;> decide

theorem witness_StepRunsTheDecodedRow :
    ∃ (s : State) (c : Code) (rest : List Code) (i : Instr), launchable s = true ∧ s.trace = c :: rest ∧ c.fmt ≠ .clk ∧
      c.fmt.internal = false ∧ decode c = .ok i ∧ i.wf = true :=
  ⟨told ⟨.rxd, 0b1_0111_1#80⟩ ready, ⟨.rxd, 0b1_0111_1#80⟩, [], .rxTickData 7#4 true, by decide, rfl, by decide, by decide, rfl,
    by decide⟩

theorem witness_ClockEdgePerformsItsRow :
    (∃ (s t : State) (c : Code) (rest : List Code), launchable s = true ∧ s.trace = c :: rest ∧ c.fmt = .clk ∧
      decode c = .ok .bcClk ∧ exec .bcClk (fetched rest s) = .next t) ∧
    (∃ (s t : State) (c : Code) (rest : List Code), launchable s = true ∧ s.trace = c :: rest ∧ c.fmt = .clk ∧
      decode c = .ok .reset ∧ exec .reset (fetched rest s) = .next t) ∧
    (∃ (s s0 s1 s2 s3 s4 s5 s6 : State) (bits : BitVec 80) (rest : List Code), launchable s = true ∧
      s.trace = ⟨.clk, bits⟩ :: rest ∧ evRst bits = false ∧
      s0 = { s with
        trace := rest, sendResp := none, readResp := none,
        rxCnt := if s.rxEn then (if s.rxCnt + 1 = s.cfg.bitDiv then 0 else s.rxCnt + 1) else s.rxCnt,
        txCnt := if s.txBusy then (if s.txCnt + 1 = s.cfg.bitDiv then 0 else s.txCnt + 1) else s.txCnt } ∧
      Performs (evMbRd bits) .mbRead s0 s1 ∧ Performs (evSendReq bits) (.send s.sendIdPort) s1 s2 ∧
      Performs (evInitRx bits) (.initRx (pinInitRxOk bits)) s2 s3 ∧
      Performs (evInitTx bits) (.initTx (pinInitTxOk bits)) s3 s4 ∧
      Performs (s.rxEn && s.rxCnt + 1 == s.cfg.bitDiv) (.rxTick (s.rxMeta.getLsbD 1)) s4 s5 ∧
      Performs (s.txBusy && s.txCnt + 1 == s.cfg.bitDiv) .txTick s5 s6 ∧
      (s.rxEn && s.rxCnt + 1 == s.cfg.bitDiv) = true ∧ (s.txBusy && s.txCnt + 1 == s.cfg.bitDiv) = true) :=
  ⟨⟨told ⟨.clk, 0#80⟩ fast, _, ⟨.clk, 0#80⟩, [], by decide, rfl, rfl, rfl, rfl⟩,
    ⟨told ⟨.clk, 0x7F#80⟩ full, _, ⟨.clk, 0x7F#80⟩, [], by decide, rfl, rfl, rfl, rfl⟩,
    ⟨told ⟨.clk, 0x3C#80⟩ { sending 8 0 with rxCnt := 3, txCnt := 3 }, _, _, _, _, _, _, _, 0x3C#80, [], by decide, rfl,
      by decide, rfl, rfl, rfl, rfl, rfl, rfl, rfl, by decide, by decide⟩⟩

theorem witness_PlacedTableWordRuns :
    ∃ (s : State) (nbits w : Nat) (i : Instr), launchable s = true ∧ decodeTableWord nbits w = some i ∧
      (tableCode nbits w).fmt.internal = false :=
  ⟨ready, 8, 0x02, .rxTick false, by decide, by decide, by decide⟩

theorem witness_StepStopsOnlyByName :
    launchable { sending 8 3 with txEnv := true } = false ∧ launchable { ready with rxCnt := 4 } = false ∧
    launchable { ready with rxCnt := 3 } = true ∧ launchable ready = true ∧ ready.trace = [] ∧
    launchable (told ⟨.syd, 0#80⟩ ready) = true ∧ (Format.syd).internal = true ∧
    launchable (told ⟨.char, 0#80⟩ ready) = true ∧ (Format.char).internal = false ∧
    decode ⟨.char, 0#80⟩ = .error .notThePattern ∧ launchable (told ⟨.ev, 0x7F#80⟩ ready) = true :=
  ⟨by decide, by decide, by decide, by decide, rfl, by decide, by decide, by decide, by decide, rfl, by decide⟩

theorem witness_DecodeOfEncodeIsTheRow :
    (Instr.rxTickData 7#4 true).wf = true ∧ (Instr.txTickStop 7#4).wf = true ∧ (Instr.txTickStart 0#4).wf = true := by decide

theorem witness_DecodedRowsAreWellFormed : decode ⟨.txd, 0b0111_1001#80⟩ = .ok (.txTickStop 7#4) := rfl

theorem witness_WireCodesAreTheirSlots : ∃ n : Nat, n = 9 ∧ n < 10 ∧ 79 < 80 := ⟨9, by decide⟩

theorem witness_EvRowsMatchTheTable :
    evOf 0#80 &&& 0x7F#7 = 0x00#7 ∧ evOf 0x7F#80 &&& 0x40#7 = 0x40#7 ∧
    launchable (told ⟨.ev, 0x3F#80⟩ (sending 8 0)) = true ∧ (evOps 0x3F#80 (sending 8 0)).length = 6 := by decide

theorem witness_TxTickIsItsSubcase :
    decode ⟨.txd, (txdVector (sending 7 9)).setWidth 80⟩ = .ok (.txTickStop 7#4) ∧
    decode ⟨.txd, (txdVector (sending 8 0)).setWidth 80⟩ = .ok .txTickEnd := ⟨rfl, rfl⟩

theorem witness_ByteDoneIsItsSubcase :
    (completed .wp1 0 0x5A#8).rxBusy = true ∧ (completed .wp1 0 0x5A#8).rxIdx.val = 8 := by decide

theorem witness_HostOperationsAreTheirSubcases :
    (completed .col 5 0x66#8).syState = .col ∧ (completed .col 5 0x66#8).plIdx.val = 5 := by decide

theorem witness_RowsThatWriteNothing :
    (∃ i : Instr, i ∈ [Instr.nop, .bcStop, .rxTickIdleHigh]) ∧
    ¬(demo.rxEn = true ∧ demo.rxBusy = false) ∧
    ¬((receiving 7 0#8).rxIdx.val = (6#4).toNat) ∧ ¬((receiving 7 0#8).rxIdx.val = 8) ∧
    ¬((completed .wp1 0 0x54#8).rxByte = 0x5A#8) ∧ ¬((completed .wp1 0 0x5A#8).rxByte ≠ 0x5A#8) ∧
    ¬((completed .wp2 0 0x5A#8).rxByte = 0x54#8) ∧ ¬((completed .wp2 0 0x54#8).rxByte ≠ 0x54#8) ∧
    ¬((completed .col 5 0#8).plIdx.val < 5) ∧ ¬((completed .col 4 0#8).plIdx.val = 5) ∧
    (∃ (y : BitVec 4) (k : Fin 10), ¬((sending 6 9).txByte.val = y.toNat ∧ (sending 6 9).txBit.val = k.val) ∧ y = 7#4 ∧ k = 9) ∧
    ¬((sending 7 9).txByte.val = 8) ∧ ¬((sending 0 0).txEn = true ∧ (sending 0 0).txBusy = false) ∧ ready.txEn = true ∧
    ¬(ready.txEn = true ∧ ready.txBusy = true) ∧ ready.mbReady = false ∧ full.mbReady = true ∧
    (ready.rxEn = true ∨ ready.rxErr = true) ∧ (ready.txEn = true ∨ ready.txErr = true) ∧
    ¬((receiving 7 0#8).rxBusy = true ∧ (receiving 7 0#8).rxIdx.val = 8) ∧
    (∀ k : Fin 6, (completed .col 5 0x66#8).cfg.localId.extractLsb' (8 * k.val) 8 =
      ((completed .col 5 0x66#8).pl.set 5 (completed .col 5 0x66#8).rxByte)[k.val]) :=
  ⟨⟨.bcStop, by decide⟩, by decide, by decide, by decide, by decide, by decide, by decide, by decide, by decide, by decide,
    ⟨7#4, 9, by decide⟩, by decide, by decide, by decide, by decide, by decide, by decide, by decide, by decide, by decide,
    by decide⟩

theorem witness_InitRxResult :
    (ready.rxEn = true ∨ ready.rxErr = true) ∧ demo.rxEn = false ∧ demo.rxErr = false := by decide

theorem witness_InitTxResult :
    (ready.txEn = true ∨ ready.txErr = true) ∧ demo.txEn = false ∧ demo.txErr = false := by decide

theorem witness_SendAcceptedResult : ready.txEn = true ∧ ready.txBusy = false := by decide

theorem witness_SendRejectedResult : demo.txEn = false ∧ (sending 0 0).txEn = true ∧ (sending 0 0).txBusy = true := by decide

theorem witness_MbReadResult : full.mbReady = true ∧ ready.mbReady = false := by decide

theorem witness_FrameEmitResult :
    (∃ (s : State) (id : Ident), (∀ k : Fin 6, id.extractLsb' (8 * k.val) 8 = (s.pl.set 5 s.rxByte)[k.val]) ∧
      id = s.cfg.localId ∧ s.syState = .col ∧ s.plIdx.val = 5) ∧
    (∃ (s : State) (id : Ident), (∀ k : Fin 6, id.extractLsb' (8 * k.val) 8 = (s.pl.set 5 s.rxByte)[k.val]) ∧
      id ≠ s.cfg.localId ∧ s.syState = .col ∧ s.plIdx.val = 5) :=
  ⟨⟨completed .col 5 0x66#8, 0x665544332211#48, by decide, by decide, by decide, by decide⟩,
    ⟨completed .col 5 0x67#8, 0x675544332211#48, by decide, by decide, by decide, by decide⟩⟩

theorem witness_ByteDonePreambleResult :
    (completed .wp1 0 0x5A#8).rxBusy = true ∧ (completed .wp1 0 0x5A#8).rxIdx.val = 8 ∧
    (completed .wp1 0 0x5A#8).syState = .wp1 ∧ (completed .wp1 0 0x5A#8).rxByte = 0x5A#8 ∧
    (completed .wp1 0 0x54#8).syState = .wp1 ∧ (completed .wp1 0 0x54#8).rxByte ≠ 0x5A#8 ∧
    (completed .wp2 0 0x54#8).syState = .wp2 ∧ (completed .wp2 0 0x54#8).rxByte = 0x54#8 ∧
    (completed .wp2 0 0x5A#8).syState = .wp2 ∧ (completed .wp2 0 0x5A#8).rxByte ≠ 0x54#8 := by decide

theorem witness_ByteDoneCollectResult :
    (∃ (s : State) (k : Fin 5), s.rxBusy = true ∧ s.rxIdx.val = 8 ∧ s.syState = .col ∧ s.plIdx.val = k.val ∧ k.val = 4) ∧
    (∃ (s : State) (id : Ident), s.rxBusy = true ∧ s.rxIdx.val = 8 ∧ s.syState = .col ∧ s.plIdx.val = 5 ∧
      (∀ k : Fin 6, id.extractLsb' (8 * k.val) 8 = (s.pl.set 5 s.rxByte)[k.val]) ∧ id = s.cfg.localId) ∧
    (∃ (s : State) (id : Ident), s.rxBusy = true ∧ s.rxIdx.val = 8 ∧ s.syState = .col ∧ s.plIdx.val = 5 ∧
      (∀ k : Fin 6, id.extractLsb' (8 * k.val) 8 = (s.pl.set 5 s.rxByte)[k.val]) ∧ id ≠ s.cfg.localId) :=
  ⟨⟨completed .col 4 0x66#8, 4, by decide⟩, ⟨completed .col 5 0x66#8, 0x665544332211#48, by decide⟩,
    ⟨completed .col 5 0x67#8, 0x675544332211#48, by decide⟩⟩

theorem witness_RxTickIdleResult : ready.rxEn = true ∧ ready.rxBusy = false := by decide

theorem witness_RxTickDataResult :
    (receiving 0 0#8).rxEn = true ∧ (receiving 0 0#8).rxBusy = true ∧ (receiving 0 0#8).rxIdx.val = (0 : Fin 8).val ∧
    (receiving 7 0#8).rxIdx.val = (7 : Fin 8).val := by decide

theorem witness_StopSlotIsNotValidated :
    (receiving 8 0xA5#8).rxEn = true ∧ (receiving 8 0xA5#8).rxBusy = true ∧ (receiving 8 0xA5#8).rxIdx.val = 8 := by decide

theorem witness_TxTickDrivesItsSlot :
    (∃ (s : State) (y : Fin 8) (k : Fin 10), s.txBusy = true ∧ s.txByte.val = y.val ∧ s.txBit.val = k.val ∧ y.val = 0 ∧
      k.val = 0) ∧
    (∃ (s : State) (y : Fin 8) (k : Fin 10), s.txBusy = true ∧ s.txByte.val = y.val ∧ s.txBit.val = k.val ∧ y.val = 7 ∧
      k.val = 8) ∧
    (∃ (s : State) (y : Fin 8) (k : Fin 10), s.txBusy = true ∧ s.txByte.val = y.val ∧ s.txBit.val = k.val ∧ y.val = 7 ∧
      k.val = 9) :=
  ⟨⟨sending 0 0, 0, 0, by decide⟩, ⟨sending 7 8, 7, 8, by decide⟩, ⟨sending 7 9, 7, 9, by decide⟩⟩

theorem witness_TxTickEndResult :
    (sending 8 0).txBusy = true ∧ (sending 8 0).txByte.val = 8 ∧ (sending 8 0).txBit.val = 0 := by decide

theorem witness_BcClkCounts :
    (∃ s : State, (s.rxEn = true → s.rxCnt + 1 ≠ s.cfg.bitDiv) ∧ (s.txBusy = true → s.txCnt + 1 ≠ s.cfg.bitDiv) ∧
      s.rxEn = true ∧ s.txBusy = true ∧ s.rxCnt + 2 = s.cfg.bitDiv) ∧
    (∃ (c : Config) (n : Nat), n + 1 < c.bitDiv ∧ n + 2 = c.bitDiv) ∧
    (∃ (c : Config) (w : Nat), 1 ≤ w ∧ c.bitDiv ≤ 2 ^ w ∧ c.bitDiv = 1) :=
  ⟨⟨{ sending 0 0 with rxCnt := 2, txCnt := 2 }, by decide⟩, ⟨ready.cfg, 2, by decide⟩, ⟨fast.cfg, 1, by decide⟩⟩

theorem witness_BcClkTicks :
    (∃ s t : State, s.rxEn = true ∧ s.rxCnt + 1 = s.cfg.bitDiv ∧ (s.txBusy = true → s.txCnt + 1 ≠ s.cfg.bitDiv) ∧
      exec (.rxTick (s.rxMeta.getLsbD 1)) { s with rxCnt := 0, txCnt := if s.txBusy then (s.txCnt + 1) % 2 ^ s.cfg.cntW else s.txCnt } =
        .next t) ∧
    (∃ s t : State, s.txBusy = true ∧ s.txCnt + 1 = s.cfg.bitDiv ∧ (s.rxEn = true → s.rxCnt + 1 ≠ s.cfg.bitDiv) ∧
      exec .txTick { s with txCnt := 0, rxCnt := if s.rxEn then (s.rxCnt + 1) % 2 ^ s.cfg.cntW else s.rxCnt } =
        .next t) ∧
    (∃ s t u : State, s.rxEn = true ∧ s.rxCnt + 1 = s.cfg.bitDiv ∧ s.txBusy = true ∧ s.txCnt + 1 = s.cfg.bitDiv ∧
      exec (.rxTick (s.rxMeta.getLsbD 1)) { s with rxCnt := 0, txCnt := 0 } = .next t ∧ exec .txTick t = .next u) :=
  ⟨⟨{ sending 0 0 with rxCnt := 3 }, _, by decide, by decide, by decide, rfl⟩,
    ⟨{ sending 0 0 with txCnt := 3 }, _, by decide, by decide, by decide, rfl⟩,
    ⟨{ sending 0 0 with rxCnt := 3, txCnt := 3 }, _, _, by decide, by decide, by decide, by decide, rfl, rfl⟩⟩

theorem witness_RoleInertBeforeInit : demo.rxEn = false ∧ demo.txBusy = false := by decide

theorem witness_CharacterTakesTenTicks : ready.rxEn = true ∧ ready.rxBusy = false ∧ (∃ n : Nat, 1 ≤ n ∧ n ≤ 9) :=
  ⟨by decide, by decide, 9, by decide⟩

theorem witness_CharHandsOverItsByte : ready.rxEn = true ∧ ready.rxBusy = false := by decide

/-- R263: while a byte is being received at index 3, the slots of the next character complete it. -/
theorem test_char_while_receiving :
    (after (.char 0xFF#8) (receiving 3 0#8)).rxBusy = false ∧ (after (.char 0xFF#8) (receiving 3 0#8)).rxByte = 0xF0#8 := by
  decide

theorem witness_FrameIsDelivered :
    ready.rxEn = true ∧ ready.rxBusy = false ∧ ready.syState = .wp1 ∧ 0x060504030201#48 ≠ ready.cfg.localId := by decide

theorem witness_SelfSuppression : full.rxBusy = false ∧ full.syState = .wp1 := by decide

theorem witness_ResyncUnderNoise :
    ∃ (s : State) (bs : List Byte), s.syState = .wp1 ∧ (∀ b ∈ bs, b ≠ 0x5A#8) ∧ bs.length = 2 :=
  ⟨ready, [0x54#8, 0x00#8], by decide⟩

theorem witness_OddRunsOfPreambleSynchronise :
    ready.syState = .wp1 ∧
    (∃ (pre six : List Byte) (id : Ident), (bytesDone pre ready).syState = .wp1 ∧ six.length = 6 ∧
      (∀ k : Fin 6, some (id.extractLsb' (8 * k.val) 8) = six[k.val]?) ∧ id ≠ ready.cfg.localId) ∧
    (∃ (pre six : List Byte) (id : Ident), (bytesDone pre ready).syState = .wp1 ∧ six.length = 6 ∧
      (∀ k : Fin 6, some (id.extractLsb' (8 * k.val) 8) = six[k.val]?) ∧ id = ready.cfg.localId) ∧
    (∃ (bs : List Byte) (b : Byte),
      ¬((bytesDone (bs ++ [b]) ready).mbReady = (bytesDone bs ready).mbReady ∧
        (bytesDone (bs ++ [b]) ready).mbSlot = (bytesDone bs ready).mbSlot)) :=
  ⟨by decide, ⟨[0x5A#8, 0x5A#8], [1#8, 2#8, 3#8, 4#8, 5#8, 6#8], 0x060504030201#48, by decide⟩,
    ⟨[0x54#8], [0x11#8, 0x22#8, 0x33#8, 0x44#8, 0x55#8, 0x66#8], 0x665544332211#48, by decide⟩,
    ⟨[0x5A#8, 0x54#8, 1#8, 2#8, 3#8, 4#8, 5#8], 6#8, by decide⟩⟩

/-- Cut after 0, 3 and 5 bytes; filled to LOCAL_ID and to another identity; P6 of 95_test_vectors.md. -/
theorem witness_TruncatedFramePoisonsTheNext :
    (∃ (s : State) (bs : List Byte), s.syState = .col ∧ s.plIdx.val + bs.length < 6 ∧ bs.length = 5) ∧
    (∃ (s : State) (bs : List Byte) (filled : Ident), s.syState = .col ∧ s.plIdx.val + bs.length = 6 ∧
      (∀ j : Fin 6, some (filled.extractLsb' (8 * j.val) 8) =
        if j.val < s.plIdx.val then some s.pl[j.val] else bs[j.val - s.plIdx.val]?) ∧ filled ≠ s.cfg.localId ∧
      s.plIdx.val = 0) ∧
    (∃ (s : State) (bs : List Byte) (filled : Ident), s.syState = .col ∧ s.plIdx.val + bs.length = 6 ∧
      (∀ j : Fin 6, some (filled.extractLsb' (8 * j.val) 8) =
        if j.val < s.plIdx.val then some s.pl[j.val] else bs[j.val - s.plIdx.val]?) ∧ filled = s.cfg.localId ∧
      s.plIdx.val = 5) ∧
    (∃ (s t : State) (id filled : Ident), s.rxEn = true ∧ s.rxBusy = false ∧ s.syState = .col ∧ s.plIdx.val = 3 ∧
      (∀ j : Fin 6, some (filled.extractLsb' (8 * j.val) 8) =
        if j.val < s.plIdx.val then some s.pl[j.val]
        else [0x5A#8, 0x54#8, id.extractLsb' 0 8, id.extractLsb' 8 8, id.extractLsb' 16 8, id.extractLsb' 24 8][
          j.val - s.plIdx.val]?) ∧
      exec (.frame id) s = .next t ∧ filled ≠ s.cfg.localId) :=
  ⟨⟨completed .col 0 0#8, [1#8, 2#8, 3#8, 4#8, 5#8], by decide⟩,
    ⟨completed .col 0 0#8, [1#8, 2#8, 3#8, 4#8, 5#8, 6#8], 0x060504030201#48, by decide⟩,
    ⟨completed .col 5 0#8, [0x66#8], 0x665544332211#48, by decide⟩,
    ⟨{ completed .col 3 0xA3#8 with rxBusy := false }, _, 0x060504030201#48, 0x01545A332211#48, by decide, by decide, by decide,
      by decide, by decide, rfl, by decide⟩⟩

theorem witness_MailboxKeepsTheLastWrite : ready.mbReady = false := by decide

/-- A transmission with nothing else going on, by TX_TICKs: state after state. -/
def ticking : Nat → State
  | 0 => { sending 0 0 with rxEn := false }
  | n + 1 => txTickOp (ticking n)

/-- Every state of the transmission can be stepped from, and holds no trace and no response. -/
theorem ticking_steady (n : Nat) :
    launchable (ticking n) = true ∧ (ticking n).trace = [] ∧ (ticking n).rxEn = false ∧ (ticking n).sendResp = none ∧
    (ticking n).readResp = none := by
  induction n with
  | zero => decide
  | succ n ih =>
    obtain ⟨hl, ht, he, hs, hr⟩ := ih
    have hx := txTickOp_sameRx (ticking n)
    exact ⟨txTickOp_launchable hl, (txTickOp_sameRest _).trace.trans ht, hx.rxEn.trans he,
      (txTickOp_sendResp _).trans hs, hx.readResp.trans hr⟩

/-- That transmission as a run: each entry is a timeless TX_TICK. -/
def tickingRun : Run where
  state := ticking
  entry _ := ⟨.ev, 0b0000001#80⟩
  moves n := by
    obtain ⟨hl, ht, -, hs, hr⟩ := ticking_steady n
    rw [step_evTxTick hl, ticking, fetched_steady ht hs hr]

theorem tickingRun_fair : FairClocks tickingRun where
  tx n h := ⟨n, le_refl n, by
    have hb : (ticking n).txBusy = true := h n (le_refl n)
    simp only [performsTxTick, tickingRun, txRuns, hb]
    decide⟩
  rx n h := absurd ((ticking_steady n).2.2.1.symm.trans (h n (le_refl n))) (by decide)

set_option maxRecDepth 20000 in
theorem witness_TransmissionIsEightyOneTicks :
    (∃ (s t : State) (id : Ident), s.txEn = true ∧ s.txBusy = false ∧ exec (.send id) s = .next t) ∧
    (∃ r : Run, FairClocks r ∧ (r.state 0).txByte = 0 ∧ (r.state 0).txBit = 0 ∧
      (∀ j, j < 81 → (r.state (0 + j)).txBusy = true ∧ resets (r.entry (0 + j)) = false) ∧
      (r.state (0 + 81)).txBusy = false) :=
  ⟨⟨ready, _, 0x060504030201#48, by decide, by decide, rfl⟩, tickingRun, tickingRun_fair, by decide, by decide,
    fun j hj => ⟨by revert j; decide, show resets ⟨.ev, 0b0000001#80⟩ = false by decide⟩, by decide⟩

theorem witness_TransmissionIsExclusive :
    ∃ (s t : State) (id : Ident), s.txBusy = true ∧ transmits (.send id) = false ∧ Instr.send id ≠ .reset ∧
      exec (.send id) s = .next t :=
  ⟨sending 4 0, _, 0x665544332211#48, by decide, by decide, by decide, rfl⟩

theorem witness_ReplayEqualsTicks : ready.txEn = true ∧ ready.txBusy = false := by decide

theorem witness_LoopbackIsSuppressed :
    ∃ s t : State, s.rxEn = true ∧ s.rxBusy = false ∧ s.syState = .wp1 ∧ s.txEn = true ∧ s.txBusy = false ∧
      exec (.send s.cfg.localId) s = .next t :=
  ⟨ready, _, by decide, by decide, by decide, by decide, by decide, rfl⟩

theorem witness_PeriodLaw :
    ∃ (s t : State) (es : List (BitVec 80)), s.Inv ∧ noReset es ∧ AfterEdges s es t ∧ s.rxEn = true ∧ s.rxCnt = 0 ∧
      s.txBusy = true ∧ s.txCnt = 0 ∧ (∀ n u, n ≤ es.length → AfterEdges s (es.take n) u → u.txBusy = true) := by
  refine ⟨{ sending 0 0 with rxEn := true }, _, [0x20#80], inv_sending, by simp [noReset]; decide, rfl, by decide, by decide,
    by decide, by decide, fun n u hn h => ?_⟩
  match n, hn with
  | 0, _ => cases h; decide
  | 1, _ => cases h; decide

/-- BIT_DIV = 1 and the line idle: an RX_TICK of a high level at every edge. -/
def idling : State := { fast with rxMeta := 0b11#2 }

def idlingRun : Run where
  state _ := idling
  entry _ := ⟨.clk, 0x100#80⟩
  moves _ := rfl

theorem witness_EdgesAlwaysRun :
    full.Inv ∧ ∃ r : Run, (r.state 0).Inv ∧ (∀ n, (r.entry n).fmt = .clk) ∧
      ∀ n, performsRxTick (r.entry n) (r.state n) = true :=
  ⟨inv_full, idlingRun, by constructor <;> decide, fun _ => rfl,
    fun _ => show performsRxTick ⟨.clk, 0x100#80⟩ idling = true by decide⟩

set_option maxRecDepth 50000 in
/-- At the boundaries of each clause, with BIT_DIV = 1: 0, 1, 80 and 81 edges. -/
theorem witness_SlotsOnTheWire :
    ∃ (s s1 : State) (id : Ident), s.Inv ∧ s.txEn = true ∧ s.txBusy = false ∧ exec (.send id) s = .next s1 ∧
      s.cfg.bitDiv = 1 ∧
      ∀ m ∈ [0, 1, 80, 81], noReset (List.replicate m 0#80) ∧ ∃ t, AfterEdges s1 (List.replicate m 0#80) t := by
  refine ⟨fast, _, 0x060504030201#48, inv_fast, by decide, by decide, rfl, by decide, ?_⟩
  intro m hm
  refine ⟨fun e he => by rw [List.eq_of_mem_replicate he]; decide, answers_next ?_⟩
  simp only [List.mem_cons, List.not_mem_nil, or_false] at hm
  rcases hm with rfl | rfl | rfl | rfl <;> decide

theorem witness_EdgeCoincidences :
    (∃ (s : State) (bits : BitVec 80) (rest : List Code), launchable s = true ∧ s.trace = ⟨.clk, bits⟩ :: rest ∧
      evRst bits = false ∧ evMbRd bits = true ∧ rxTickDue s = true ∧ s.rxBusy = true ∧ s.rxIdx.val = 8 ∧ s.syState = .col ∧
      s.plIdx.val = 5 ∧ payloadIdent s.pl s.rxByte ≠ s.cfg.localId) ∧
    (∃ (s : State) (bits : BitVec 80) (rest : List Code), launchable s = true ∧ s.trace = ⟨.clk, bits⟩ :: rest ∧
      evRst bits = false ∧ evSendReq bits = true ∧ s.txEn = true ∧ txTickDue s = true ∧ s.txByte.val = 8) ∧
    (∃ (s : State) (bits : BitVec 80) (rest : List Code), launchable s = true ∧ s.trace = ⟨.clk, bits⟩ :: rest ∧
      evRst bits = false ∧ evSendReq bits = true ∧ evInitTx bits = true ∧ pinInitTxOk bits = true ∧ s.txEn = false ∧
      s.txErr = false ∧ s.txBusy = false) ∧
    (∃ (s : State) (bits : BitVec 80) (rest : List Code), launchable s = true ∧ s.trace = ⟨.ev, bits⟩ :: rest ∧
      evRst bits = false ∧ evMbRd bits = true ∧ evRxTick bits = true ∧ s.rxEn = true ∧ s.rxBusy = true ∧ s.rxIdx.val = 8 ∧
      s.syState = .col ∧ s.plIdx.val = 5 ∧ payloadIdent s.pl s.rxByte ≠ s.cfg.localId) ∧
    (∃ (s : State) (bits : BitVec 80) (rest : List Code), launchable s = true ∧ s.trace = ⟨.ev, bits⟩ :: rest ∧
      evRst bits = false ∧ evSendReq bits = true ∧ evTxTick bits = true ∧ s.txEn = true ∧ s.txBusy = true ∧
      s.txByte.val = 8) ∧
    (∃ (s : State) (bits : BitVec 80) (rest : List Code), launchable s = true ∧ s.trace = ⟨.ev, bits⟩ :: rest ∧
      evRst bits = false ∧ evSendReq bits = true ∧ evInitTx bits = true ∧ pinInitTxOk bits = true ∧ s.txEn = false ∧
      s.txErr = false ∧ s.txBusy = false ∧ evInitRx bits = true ∧ pinInitRxOk bits = true ∧ s.rxEn = false ∧
      s.rxErr = false) ∧
    (∃ (s : State) (bits : BitVec 80) (rest : List Code), launchable s = true ∧ s.trace = ⟨.ev, bits⟩ :: rest ∧
      evRst bits = false ∧ evSendReq bits = true ∧ evTxTick bits = true ∧ s.txEn = true ∧ s.txBusy = false) :=
  ⟨⟨told ⟨.clk, 0b0100000#80⟩ { completed .col 5 0x67#8 with rxCnt := 3 }, 0b0100000#80, [], by decide, rfl, by decide⟩,
    ⟨told ⟨.clk, 0b0010000#80⟩ { sending 8 0 with txCnt := 3 }, 0b0010000#80, [], by decide, rfl, by decide⟩,
    ⟨told ⟨.clk, 0b100_0_0010100#80⟩ demo, 0b100_0_0010100#80, [], by decide, rfl, by decide⟩,
    ⟨told ⟨.ev, 0b0100010#80⟩ (completed .col 5 0x67#8), 0b0100010#80, [], by decide, rfl, by decide⟩,
    ⟨told ⟨.ev, 0b0010001#80⟩ (sending 8 0), 0b0010001#80, [], by decide, rfl, by decide⟩,
    ⟨told ⟨.ev, 0b110_0_0011100#80⟩ demo, 0b110_0_0011100#80, [], by decide, rfl, by decide⟩,
    ⟨told ⟨.ev, 0b0010001#80⟩ ready, 0b0010001#80, [], by decide, rfl, by decide⟩⟩

/-- With BIT_DIV = 4 and with BIT_DIV = 1. -/
theorem witness_StartOverridesTheCount :
    (∃ (s u : State) (bits : BitVec 80) (rest : List Code), launchable s = true ∧ s.trace = ⟨.clk, bits⟩ :: rest ∧
      evRst bits = false ∧ evSendReq bits = true ∧ s.txEn = true ∧ s.txBusy = false ∧ launchable u = true ∧
      u.trace = ⟨.clk, bits⟩ :: rest ∧ u.txEn = true ∧ u.txBusy = false ∧ u.cfg.bitDiv = 1) ∧
    (∃ (s u : State) (bits : BitVec 80) (rest : List Code), launchable s = true ∧ s.trace = ⟨.clk, bits⟩ :: rest ∧
      evRst bits = false ∧ evInitRx bits = true ∧ pinInitRxOk bits = true ∧ s.rxEn = false ∧ s.rxErr = false ∧
      launchable u = true ∧ u.trace = ⟨.clk, bits⟩ :: rest ∧ u.rxEn = false ∧ u.rxErr = false ∧ u.cfg.bitDiv = 1) :=
  ⟨⟨told ⟨.clk, 0b0010000#80⟩ ready, told ⟨.clk, 0b0010000#80⟩ fast, 0b0010000#80, [], by decide, rfl, by decide⟩,
    ⟨told ⟨.clk, 0b010_0_0001000#80⟩ demo, told ⟨.clk, 0b010_0_0001000#80⟩ { fast with rxEn := false },
      0b010_0_0001000#80, [], by decide, rfl, by decide⟩⟩

theorem witness_ResetOverridesEveryRequest :
    ∃ (s u : State) (bits : BitVec 80) (rest : List Code), launchable s = true ∧ launchable u = true ∧ evRst bits = true ∧
      s.trace = ⟨.ev, bits⟩ :: rest ∧ u.trace = ⟨.clk, bits⟩ :: rest ∧ u.carCnt + 1 = u.cfg.carDiv :=
  ⟨told ⟨.ev, 0b1111111#80⟩ { sending 3 9 with txEnv := true },
    told ⟨.clk, 0b1111111#80⟩ { sending 3 9 with txEnv := true, carCnt := 9 }, 0b1111111#80, [], by decide, by decide,
    by decide, rfl, rfl, by decide⟩

theorem witness_EveryEdgeMovesTheFreeRegisters :
    ∃ (s u : State) (bits : BitVec 80) (rest : List Code), launchable s = true ∧ s.trace = ⟨.clk, bits⟩ :: rest ∧
      s.carCnt + 2 = s.cfg.carDiv ∧ launchable u = true ∧ u.trace = ⟨.clk, bits⟩ :: rest ∧ u.carCnt + 1 = u.cfg.carDiv :=
  ⟨told ⟨.clk, 0x100#80⟩ { ready with carCnt := 8 }, told ⟨.clk, 0x100#80⟩ { ready with carCnt := 9 }, 0x100#80, [], by decide,
    rfl, by decide, by decide, rfl, by decide⟩

theorem witness_InvIsKeptByEveryStep : ∃ s t : State, s.Inv ∧ step s = .next t :=
  ⟨told ⟨.ev, 0x28#80⟩ full, _, by constructor <;> decide, rfl⟩

theorem witness_InvInEveryReachableState :
    ∃ s s0 t : State, exec .reset s = .next s0 ∧ Reaches s0 t ∧ t.rxEn = true :=
  ⟨sending 3 9, _, _, rfl, .step (.agents [⟨.ev, 0b010_0_0001000#80⟩] .start) rfl, rfl⟩

theorem witness_EveryRowIsTotal : ready.Inv := inv_ready

theorem witness_EachElementHasItsWriters :
    ∃ (e : Element) (i : Instr) (s t : State), exec i s = .next t ∧ e.writers i = false :=
  ⟨.mbSlot, .mbRead, full, _, rfl, by decide⟩

theorem witness_OnlyResetClearsEnables :
    ∃ (i : Instr) (s t : State), i ≠ .reset ∧ exec i s = .next t ∧ s.rxEn = true ∧ s.txEn = true ∧ s.rxErr = true ∧
      s.txErr = true :=
  ⟨.initRx false, { ready with rxErr := true, txErr := true }, _, by decide, rfl, by decide⟩

theorem witness_ParametersNeverChange : ∃ s t : State, step s = .next t := ⟨told ⟨.ev, 0x40#80⟩ full, _, rfl⟩

theorem witness_OutputPinsAgree :
    ∃ (s t u : State) (id : Ident), exec (.send id) s = .next t ∧ exec .mbRead s = .next u ∧ s.mbReady = true ∧
      txEnvPin { sending 0 1 with txEnv := true } = true ∧ irOutPin { fast with txBusy := true, txEnv := true } = true :=
  ⟨full, _, _, 0x060504030201#48, rfl, rfl, by decide, by decide,
    by simp [irOutPin, carrier, Config.carDiv, fast, Nat.mod_one]⟩

end Sys2Proof.Tests
end

section
/-! PROOFS. The nine invariants of R40: every shared operation keeps them, so every row does, so every step does, so they hold
in every state reached from RESET. -/

namespace Sys2Proof

/-! ## Interval lists replay the levels they code (R88) -/

theorem replayLevels_addSlot (mark : Bool) (ps : List (Nat × Nat)) :
    replayLevels (addSlot mark ps) = mark :: replayLevels ps := by
  match mark, ps with
  | true, [] => rfl
  | true, (_, _) :: _ => simp [addSlot, replayLevels, List.replicate_succ]
  | false, [] => rfl
  | false, (0, _) :: _ => simp [addSlot, replayLevels, List.replicate_succ]
  | false, (_ + 1, _) :: _ => simp [addSlot, replayLevels]

theorem replayLevels_runLength (levels : List Bool) : replayLevels (runLength levels) = levels := by
  induction levels with
  | nil => rfl
  | cons l ls ih => exact (replayLevels_addSlot l (runLength ls)).trans (congrArg (l :: ·) ih)

@[simp] theorem replayLevels_intervals (id : Ident) : replayLevels (intervals id) = frameEnv id :=
  replayLevels_runLength (frameEnv id)

@[simp] theorem frameEnv_length (id : Ident) : (frameEnv id).length = 80 := by simp [frameEnv]

end Sys2Proof

namespace Sys2Proof.Machine

section

variable {s t : State}

/-- A replayed list writes no element but the envelope. -/
theorem foldl_txEnv (levels : List Bool) (s : State) :
    ∃ e, levels.foldl (fun t e => { t with txEnv := e }) s = { s with txEnv := e } := by
  induction levels generalizing s with
  | nil => exact ⟨s.txEnv, rfl⟩
  | cons l ls ih => exact ih { s with txEnv := l }

/-- A replay of eighty levels in closed form (R139, R88). -/
theorem replayIntervals_eq (ivl : List (Nat × Nat)) (s : State) (h80 : (replayLevels ivl).length = 80) :
    replayIntervals ivl s = { s with txByte := 8, txBit := 0, txEnv := false, txBusy := false } := by
  obtain ⟨e, he⟩ := foldl_txEnv (replayLevels ivl) s
  simp only [replayIntervals, he, h80]
  rfl

/-! ## Each shared operation keeps the invariants of R40

A proof names the clauses that read an element the operation writes; the others are those of the state before. -/

theorem onlyIf_keeps_inv {c : Bool} (hs : s.Inv) (ht : c = true → t.Inv) : (onlyIf c t s).Inv := by
  rcases onlyIf_cases c t s with ⟨hc, h⟩ | ⟨-, h⟩ <;> rw [h]
  · exact ht hc
  · exact hs

/-- RESET establishes the invariants from any state (R250). -/
theorem resetAll_inv (s : State) : (resetAll s).Inv where
  endPosition := nofun
  idleEnvelope _ := rfl
  busyEnabled := nofun
  receivingEnabled := nofun
  rxEnabledNoError _ := rfl
  txEnabledNoError _ := rfl
  readyForeign := nofun
  busyPreamble1 := nofun
  busyPreamble2 := nofun
  rxCntRange := Nat.succ_pos _
  txCntRange := Nat.succ_pos _

theorem fetched_keeps_inv (rest : List Code) (hs : s.Inv) : (fetched rest s).Inv := { hs with }

theorem shiftFree_keeps_inv (rxIn : Bool) (hs : s.Inv) : (shiftFree rxIn s).Inv := { hs with }

theorem bcStartRx_keeps_inv (hs : s.Inv) : (bcStartRx s).Inv := { hs with rxCntRange := Nat.succ_pos _ }

theorem bcStartTx_keeps_inv (hs : s.Inv) : (bcStartTx s).Inv := { hs with txCntRange := Nat.succ_pos _ }

theorem bcCount_keeps_inv (hs : s.Inv) : (bcCount s).Inv :=
  { hs with
    rxCntRange := nextCount_lt _ _ _ hs.rxCntRange
    txCntRange := nextCount_lt _ _ _ hs.txCntRange }

/-- INIT_RX sets `rx_en` and `rx_err` only where both were 0 (R116). -/
theorem initRx_keeps_inv (ok : Bool) (hs : s.Inv) : (initRx ok s).Inv := by
  rcases initRx_cases ok s with ⟨-, h⟩ | ⟨-, herr, -, h⟩ | ⟨hen, -, -, h⟩ <;> rw [h]
  · exact hs
  · exact { hs with
      receivingEnabled := fun _ => rfl
      rxEnabledNoError := fun _ => herr
      rxCntRange := Nat.succ_pos _ }
  · exact { hs with rxEnabledNoError := fun h => absurd (hen.symm.trans h) Bool.false_ne_true }

/-- INIT_TX sets `tx_en` and `tx_err` only where both were 0 (R117). -/
theorem initTx_keeps_inv (ok : Bool) (hs : s.Inv) : (initTx ok s).Inv := by
  rcases initTx_cases ok s with ⟨-, h⟩ | ⟨-, herr, -, h⟩ | ⟨hen, -, -, h⟩ <;> rw [h]
  · exact hs
  · exact { hs with busyEnabled := fun _ => rfl, txEnabledNoError := fun _ => herr }
  · exact { hs with txEnabledNoError := fun h => absurd (hen.symm.trans h) Bool.false_ne_true }

theorem readMailbox_keeps_inv (hs : s.Inv) : (readMailbox s).Inv := by
  rcases readMailbox_cases s with ⟨-, h⟩ | ⟨-, h⟩ <;> rw [h]
  · exact { hs with readyForeign := nofun }
  · exact { hs with }

/-- MB_WRITE keeps the invariants only because the Self-Filter lets no LOCAL_ID through (R191, R201). -/
theorem putMailbox_keeps_inv {id : Ident} (hs : s.Inv) (hid : id ≠ s.cfg.localId) : (putMailbox id s).Inv :=
  { hs with readyForeign := fun _ => hid }

theorem emitFrame_keeps_inv (id : Ident) (hs : s.Inv) : (emitFrame id s).Inv := by
  rcases emitFrame_cases id s with ⟨-, h⟩ | ⟨hid, h⟩ <;> rw [h]
  · exact hs
  · exact putMailbox_keeps_inv hs hid

theorem byteDoneOp_keeps_inv (b : Byte) (hs : s.Inv) : (byteDoneOp b s).Inv := by
  rcases byteDoneOp_cases b s with ⟨-, -, h⟩ | ⟨-, -, h⟩ | ⟨-, -, h⟩ | ⟨-, -, h⟩ | ⟨-, _, h⟩ | ⟨-, -, h⟩ <;> rw [h]
  case inr.inr.inr.inr.inr => exact emitFrame_keeps_inv _ { hs with }
  all_goals exact { hs with }

theorem startChar_keeps_inv (hs : s.Inv) (hen : s.rxEn = true) : (startChar s).Inv :=
  { hs with receivingEnabled := fun _ => hen }

theorem sampleData_keeps_inv (level : Bool) (h8 : s.rxIdx.val < 8) (hs : s.Inv) : (sampleData level s h8).Inv := { hs with }

theorem stopChar_keeps_inv (hs : s.Inv) : (stopChar s).Inv :=
  byteDoneOp_keeps_inv _ { hs with receivingEnabled := nofun }

theorem rxTickOp_keeps_inv (level : Bool) (hs : s.Inv) : (rxTickOp level s).Inv := by
  rcases rxTickOp_cases level s with ⟨-, h⟩ | ⟨-, -, -, h⟩ | ⟨hen, -, -, h⟩ | ⟨-, -, h8, h⟩ | ⟨-, -, -, h⟩ <;> rw [h]
  · exact hs
  · exact hs
  · exact startChar_keeps_inv hs hen
  · exact sampleData_keeps_inv level h8 hs
  · exact stopChar_keeps_inv hs

theorem rxLevels_keeps_inv (levels : List Bool) (hs : s.Inv) : (rxLevels levels s).Inv := by
  induction levels generalizing s with
  | nil => exact hs
  | cons l ls ih => exact ih (rxTickOp_keeps_inv l hs)

theorem rxFrame_keeps_inv (id : Ident) (hs : s.Inv) : (rxFrame id s).Inv := by
  rw [rxFrame, foldl_rxChar]
  exact rxLevels_keeps_inv _ hs

theorem respondSend_keeps_inv (r : Bool) (hs : s.Inv) : (respondSend r s).Inv := { hs with }

/-- SEND.accept latches a frame that begins with the preamble, where `tx_en` is set (R131). -/
theorem acceptSend_keeps_inv (id : Ident) (hs : s.Inv) (hen : s.txEn = true) : (acceptSend id s).Inv :=
  { hs with
    endPosition := nofun
    idleEnvelope := nofun
    busyEnabled := fun _ => hen
    busyPreamble1 := fun _ => rfl
    busyPreamble2 := fun _ => rfl
    txCntRange := Nat.succ_pos _ }

theorem sendOp_keeps_inv (id : Ident) (hs : s.Inv) : (sendOp id s).Inv := by
  rcases sendOp_cases id s with ⟨hen, -, h⟩ | ⟨-, h⟩ <;> rw [h]
  · exact acceptSend_keeps_inv id hs hen
  · exact respondSend_keeps_inv false hs

theorem endTx_keeps_inv (hs : s.Inv) : (endTx s).Inv :=
  { hs with
    idleEnvelope := fun _ => rfl
    busyEnabled := nofun
    busyPreamble1 := nofun
    busyPreamble2 := nofun }

/-- A slot is driven only while `tx_busy` is set, and the position leaves a byte only to slot 0 of the next (R133). -/
theorem driveSlot_keeps_inv (bit : Bool) (h8 : s.txByte.val < 8) (hs : s.Inv) (hbusy : s.txBusy = true) :
    (driveSlot bit s h8).Inv := by
  have idle {e : Bool} (h : s.txBusy = false) : e = false := absurd (h.symm.trans hbusy) Bool.false_ne_true
  rcases driveSlot_cases bit s h8 with ⟨_, h⟩ | ⟨-, h⟩ <;> rw [h]
  · exact { hs with endPosition := fun h => absurd h (Nat.ne_of_lt h8), idleEnvelope := idle }
  · exact { hs with endPosition := fun _ => rfl, idleEnvelope := idle }

theorem txTickOp_keeps_inv (hs : s.Inv) : (txTickOp s).Inv := by
  rcases txTickOp_cases s with ⟨-, h⟩ | ⟨-, -, h⟩ | ⟨hbusy, h8, h⟩ <;> rw [h]
  · exact hs
  · exact endTx_keeps_inv hs
  · exact driveSlot_keeps_inv _ h8 hs hbusy

theorem slotSubcase_keeps_inv (y : BitVec 4) (slot : Nat) (bit : State → Bool) (hs : s.Inv) :
    (slotSubcase y slot bit s).Inv := by
  unfold slotSubcase
  split
  · refine onlyIf_keeps_inv hs fun hc => driveSlot_keeps_inv _ _ hs ?_
    simp only [txRuns, Bool.and_eq_true] at hc
    exact hc.1.1
  · exact hs

/-- A replay of eighty levels leaves the position at 8, slot 0, and the transmitter idle. -/
theorem replayIntervals_keeps_inv {ivl : List (Nat × Nat)} (h80 : (replayLevels ivl).length = 80) (hs : s.Inv) :
    (replayIntervals ivl s).Inv := by
  rw [replayIntervals_eq ivl s h80]
  exact { endTx_keeps_inv hs with endPosition := fun _ => rfl }

/-! ## Every row, list of operations, entry of the trace and step keeps them -/

theorem execBcClk_keeps_inv (hs : s.Inv) : ∃ t, execBcClk s = .next t ∧ t.Inv := by
  refine ⟨_, rfl, ?_⟩
  have hcount := bcCount_keeps_inv hs
  have hreceived : (if rxTickDue s then rxTickOp (sampledLevel s) (bcCount s) else bcCount s).Inv := by
    split
    · exact rxTickOp_keeps_inv _ hcount
    · exact hcount
  split
  · exact txTickOp_keeps_inv hreceived
  · exact hreceived

theorem execRxTickData_keeps_inv (idx : BitVec 4) (v : Bool) (hs : s.Inv) :
    ∃ t, execRxTickData idx v s = .next t ∧ t.Inv := by
  unfold execRxTickData
  split
  · exact ⟨_, rfl, onlyIf_keeps_inv hs fun _ => sampleData_keeps_inv v _ hs⟩
  · exact ⟨_, rfl, hs⟩

theorem execIvl_keeps_inv (id : Ident) (hs : s.Inv) : ∃ t, execIvl id s = .next t ∧ t.Inv := by
  refine ⟨_, rfl, ?_⟩
  split
  next hsel =>
    have hen : s.txEn = true := (Bool.and_eq_true _ _ ▸ hsel).1
    exact replayIntervals_keeps_inv (by simp) (acceptSend_keeps_inv id hs hen)
  next => exact sendOp_keeps_inv id hs

/-- Every row answers a next state (R226), and that state meets R40 if the one before does. -/
theorem exec_keeps_inv (i : Instr) (hs : s.Inv) : ∃ t, exec i s = .next t ∧ t.Inv := by
  cases i with
  | reset => exact ⟨_, rfl, resetAll_inv s⟩
  | nop | rxTickIdleHigh | initRxIgnoredEnabled | initRxIgnoredFailed | initTxIgnoredEnabled | initTxIgnoredFailed
  | frameEmitDrop | bcStop => exact ⟨_, rfl, hs⟩
  | bcClk => exact execBcClk_keeps_inv hs
  | bcStartRx => exact ⟨_, rfl, onlyIf_keeps_inv hs fun _ => bcStartRx_keeps_inv hs⟩
  | bcStartTx => exact ⟨_, rfl, onlyIf_keeps_inv hs fun _ => bcStartTx_keeps_inv hs⟩
  | initRx ok => exact ⟨_, rfl, initRx_keeps_inv ok hs⟩
  | initRxOk | initRxFail => exact ⟨_, rfl, onlyIf_keeps_inv hs fun _ => initRx_keeps_inv _ hs⟩
  | initTx ok => exact ⟨_, rfl, initTx_keeps_inv ok hs⟩
  | initTxOk | initTxFail => exact ⟨_, rfl, onlyIf_keeps_inv hs fun _ => initTx_keeps_inv _ hs⟩
  | mbRead => exact ⟨_, rfl, readMailbox_keeps_inv hs⟩
  | mbReadFull | mbReadEmpty => exact ⟨_, rfl, onlyIf_keeps_inv hs fun _ => readMailbox_keeps_inv hs⟩
  | mbWrite | frameEmitForward =>
    exact ⟨_, rfl, onlyIf_keeps_inv hs fun h =>
      putMailbox_keeps_inv hs ((sameIdent_false_iff _ _).mp (Bool.not_eq_true' _ ▸ h))⟩
  | frameEmit => exact ⟨_, rfl, onlyIf_keeps_inv hs fun _ => emitFrame_keeps_inv _ hs⟩
  | byteDone | byteDoneWp1Hit | byteDoneWp1Miss | byteDoneWp2Hit | byteDoneWp2Miss | byteDoneColStore | byteDoneColLast =>
    exact ⟨_, rfl, onlyIf_keeps_inv hs fun _ => byteDoneOp_keeps_inv _ hs⟩
  | rxTick level => exact ⟨_, rfl, rxTickOp_keeps_inv level hs⟩
  | rxTickStart =>
    exact ⟨_, rfl, onlyIf_keeps_inv hs fun h => startChar_keeps_inv hs (Bool.and_eq_true _ _ ▸ h).1⟩
  | rxTickData idx v => exact execRxTickData_keeps_inv idx v hs
  | rxTickStop => exact ⟨_, rfl, onlyIf_keeps_inv hs fun _ => stopChar_keeps_inv hs⟩
  | char b => exact ⟨_, rfl, rxLevels_keeps_inv (charSlots b) hs⟩
  | frame id => exact ⟨_, rfl, rxFrame_keeps_inv id hs⟩
  | send id => exact ⟨_, rfl, sendOp_keeps_inv id hs⟩
  | sendAccept id =>
    exact ⟨_, rfl, onlyIf_keeps_inv hs fun h => acceptSend_keeps_inv id hs (Bool.and_eq_true _ _ ▸ h).1⟩
  | sendRejectDisabled | sendRejectBusy => exact ⟨_, rfl, onlyIf_keeps_inv hs fun _ => respondSend_keeps_inv false hs⟩
  | txTick => exact ⟨_, rfl, txTickOp_keeps_inv hs⟩
  | txTickStart | txTickDataD0 | txTickDataD1 | txTickDataD2 | txTickDataD3 | txTickDataD4 | txTickDataD5 | txTickDataD6
  | txTickDataD7 | txTickStop => exact ⟨_, rfl, slotSubcase_keeps_inv _ _ _ hs⟩
  | txTickEnd => exact ⟨_, rfl, onlyIf_keeps_inv hs fun _ => endTx_keeps_inv hs⟩
  | id48 => exact ⟨_, rfl, { hs with }⟩
  | ivl id => exact execIvl_keeps_inv id hs

theorem runAll_keeps_inv (is : List Instr) (hs : s.Inv) : ∃ t, runAll is s = .next t ∧ t.Inv := by
  induction is generalizing s with
  | nil => exact ⟨s, rfl, hs⟩
  | cons i is ih =>
    obtain ⟨u, hu, hinv⟩ := exec_keeps_inv i hs
    rw [runAll_cons is hu]
    exact ih hinv

theorem clkEdge_keeps_inv (bits : BitVec 80) (hs : s.Inv) : ∃ t, clkEdge bits s = .next t ∧ t.Inv := by
  cases hr : evRst bits with
  | true => exact ⟨_, clkEdge_rst bits s hr, shiftFree_keeps_inv _ (resetAll_inv s)⟩
  | false =>
    obtain ⟨u, hu, hinv⟩ := runAll_keeps_inv (edgeOps bits s) (bcCount_keeps_inv hs)
    exact ⟨_, by simp [clkEdge, hr, hu, andThen], shiftFree_keeps_inv (pinRxIn bits) hinv⟩

theorem inv_of_answer {o : Host.Outcome State Fault Refusal} (ho : ∃ u, o = .next u ∧ u.Inv) (h : o = .next t) : t.Inv := by
  obtain ⟨u, hu, hinv⟩ := ho
  exact Host.Outcome.next.inj (hu.symm.trans h) ▸ hinv

/-- An entry of the trace that answers a next state keeps R40; internal and undecodable entries answer none. -/
theorem runCode_keeps_inv (c : Code) (hs : s.Inv) (h : runCode c s = .next t) : t.Inv := by
  unfold runCode at h
  split at h
  · exact inv_of_answer (runAll_keeps_inv _ hs) h
  · exact inv_of_answer (clkEdge_keeps_inv _ hs) h
  · split at h
    · cases h
    · unfold runDecoded at h
      split at h
      · exact inv_of_answer (exec_keeps_inv _ hs) h
      · cases h

theorem step_keeps_inv (hs : s.Inv) (h : step s = .next t) : t.Inv := by
  simp only [step, nextStep, hs.launchable, if_true] at h
  split at h
  · cases h
    exact fetched_keeps_inv [] hs
  · exact runCode_keeps_inv _ (fetched_keeps_inv _ hs) h

/-- No trace the agents bring and no step leads out of R40. -/
theorem reaches_keeps_inv (hs : s.Inv) (h : Reaches s t) : t.Inv := by
  induction h with
  | start => exact hs
  | agents _ _ ih => exact { ih with }
  | step _ hstep ih => exact step_keeps_inv ih hstep

end

/-- Settles O55: RESET establishes the invariants from any state, and every step and every trace keeps them. -/
theorem invInEveryReachableState : Obligations.InvInEveryReachableState := by
  intro s s0 t hreset hreach
  cases hreset
  exact reaches_keeps_inv (resetAll_inv s) hreach

end Sys2Proof.Machine
end

section
/-! PROOFS. The interval list of a frame (R88): as a frame begins with a mark and ends with a space, its run-length coding has
no odd half-pair. -/

namespace Sys2Proof

/-! ## Spaces: only a mark at the end of the levels is coded without a space after it -/

theorem addSlot_ne_nil (mark : Bool) (ps : List (Nat × Nat)) : addSlot mark ps ≠ [] := by
  fun_cases addSlot mark ps <;> simp

theorem addSlot_spaces_pos (mark : Bool) {ps : List (Nat × Nat)} (hne : ps ≠ []) (hps : ∀ p ∈ ps, 1 ≤ p.2) :
    ∀ p ∈ addSlot mark ps, 1 ≤ p.2 := by
  match mark, ps with
  | true, (_, _) :: _ => simpa [addSlot] using hps
  | true, [] => exact absurd rfl hne
  | false, [] => simp [addSlot]
  | false, (0, _) :: _ => simpa [addSlot] using fun a b h => hps (a, b) (List.mem_cons_of_mem _ h)
  | false, (_ + 1, _) :: _ => simpa [addSlot] using hps

theorem runLength_concat_space (front : List Bool) :
    runLength (front ++ [false]) ≠ [] ∧ ∀ p ∈ runLength (front ++ [false]), 1 ≤ p.2 := by
  induction front with
  | nil => decide
  | cons l ls ih =>
    obtain ⟨hne, hps⟩ := ih
    exact ⟨addSlot_ne_nil l _, addSlot_spaces_pos l hne hps⟩

theorem runLength_spaces_pos {levels : List Bool} (hlast : levels.getLast? = some false) :
    ∀ p ∈ runLength levels, 1 ≤ p.2 := by
  obtain ⟨front, rfl⟩ := List.getLast?_eq_some_iff.mp hlast
  exact (runLength_concat_space front).2

/-! ## Marks: only a space at the front of the levels is coded without a mark before it -/

theorem addSlot_tail_marks_pos (mark : Bool) {ps : List (Nat × Nat)} (hps : ∀ p ∈ ps.tail, 1 ≤ p.1) :
    ∀ p ∈ (addSlot mark ps).tail, 1 ≤ p.1 := by
  match mark, ps with
  | true, (_, _) :: _ => exact hps
  | true, [] => nofun
  | false, [] => nofun
  | false, (0, _) :: _ => exact hps
  | false, (m + 1, _) :: _ => exact List.forall_mem_cons.mpr ⟨Nat.succ_pos m, hps⟩

theorem addSlot_true_marks_pos {ps : List (Nat × Nat)} (hps : ∀ p ∈ ps.tail, 1 ≤ p.1) :
    ∀ p ∈ addSlot true ps, 1 ≤ p.1 := by
  match ps with
  | [] => simp [addSlot]
  | (m, _) :: _ => exact List.forall_mem_cons.mpr ⟨Nat.succ_pos m, hps⟩

theorem runLength_tail_marks_pos (levels : List Bool) : ∀ p ∈ (runLength levels).tail, 1 ≤ p.1 := by
  induction levels with
  | nil => nofun
  | cons l ls ih => exact addSlot_tail_marks_pos l ih

theorem runLength_marks_pos {levels : List Bool} (hhead : levels.head? = some true) :
    ∀ p ∈ runLength levels, 1 ≤ p.1 := by
  obtain ⟨rest, rfl⟩ := List.head?_eq_some_iff.mp hhead
  exact addSlot_true_marks_pos (runLength_tail_marks_pos rest)

/-! ## Bit periods: one level for each -/

theorem length_replayLevels (ps : List (Nat × Nat)) :
    (replayLevels ps).length = (ps.map fun p => p.1 + p.2).sum := by
  induction ps with
  | nil => rfl
  | cons p rest ih => simp [replayLevels, ih, Nat.add_assoc]

/-! ## A frame begins with the mark of a start bit and ends with the space of a stop bit (R81, R83) -/

theorem slotEnv_start (b : Byte) : slotEnv b 0 = true := rfl

theorem slotEnv_stop (b : Byte) : slotEnv b 9 = false := rfl

theorem frameEnv_head? (id : Ident) : (frameEnv id).head? = some true := by
  simp [frameEnv, List.head?_range, slotEnv_start]

theorem frameEnv_getLast? (id : Ident) : (frameEnv id).getLast? = some false := by
  simp [frameEnv, List.getLast?_range, slotEnv_stop]

/-- Settles O44: the coding is exact, a frame's first and last slots fill its first mark and its last space, and its levels
count its bit periods. -/
theorem intervalsReplayTheFrame : Obligations.IntervalsReplayTheFrame := by
  refine ⟨fun id => ⟨replayLevels_intervals id, fun p hp => ?_, ?_⟩, by decide⟩
  · exact ⟨runLength_marks_pos (frameEnv_head? id) p hp, runLength_spaces_pos (frameEnv_getLast? id) p hp⟩
  · rw [← length_replayLevels, replayLevels_intervals, frameEnv_length]

end Sys2Proof
end

section
/-! PROOFS. The period of the BitClocks (R115). A run of edges can be taken apart at its last edge, because no operation of an
edge reads the trace; an edge moves the counter of a running BitClock by one modulo BIT_DIV, whatever else it performs; so the
counter of one that started at 0 is the number of the edges since, modulo BIT_DIV. -/

namespace Sys2Proof.Machine

section

variable {s t : State}

/-! ## No operation of an edge reads the trace -/

/-- A state with another trace: what AfterEdges starts from. -/
def State.withTrace (tr : List Code) (s : State) : State := { s with trace := tr }

theorem onlyIf_withTrace (tr : List Code) (c : Bool) (t s : State) :
    onlyIf c (t.withTrace tr) (s.withTrace tr) = (onlyIf c t s).withTrace tr := by
  cases c <;> rfl

theorem readMailbox_withTrace (tr : List Code) (s : State) :
    readMailbox (s.withTrace tr) = (readMailbox s).withTrace tr := by
  simp only [readMailbox, apply_ite (State.withTrace tr)]
  rfl

theorem sendOp_withTrace (tr : List Code) (id : Ident) (s : State) :
    sendOp id (s.withTrace tr) = (sendOp id s).withTrace tr := by
  simp only [sendOp, apply_ite (State.withTrace tr)]
  rfl

theorem initRx_withTrace (tr : List Code) (ok : Bool) (s : State) :
    initRx ok (s.withTrace tr) = (initRx ok s).withTrace tr := by
  simp only [initRx, apply_ite (State.withTrace tr)]
  rfl

theorem initTx_withTrace (tr : List Code) (ok : Bool) (s : State) :
    initTx ok (s.withTrace tr) = (initTx ok s).withTrace tr := by
  simp only [initTx, apply_ite (State.withTrace tr)]
  rfl

theorem emitFrame_withTrace (tr : List Code) (id : Ident) (s : State) :
    emitFrame id (s.withTrace tr) = (emitFrame id s).withTrace tr := by
  simp only [emitFrame, apply_ite (State.withTrace tr)]
  rfl

theorem byteDoneOp_withTrace (tr : List Code) (b : Byte) (s : State) :
    byteDoneOp b (s.withTrace tr) = (byteDoneOp b s).withTrace tr := by
  have hsy : (s.withTrace tr).syState = s.syState := rfl
  unfold byteDoneOp
  rw [hsy]
  cases s.syState with
  | wp1 | wp2 =>
    simp only [apply_ite (State.withTrace tr)]
    rfl
  | col =>
    simp only [apply_dite (State.withTrace tr), ← emitFrame_withTrace]
    rfl

theorem rxTickOp_withTrace (tr : List Code) (level : Bool) (s : State) :
    rxTickOp level (s.withTrace tr) = (rxTickOp level s).withTrace tr := by
  simp only [rxTickOp, stopChar, apply_ite (State.withTrace tr), apply_dite (State.withTrace tr), ← byteDoneOp_withTrace]
  rfl

theorem txTickOp_withTrace (tr : List Code) (s : State) :
    txTickOp (s.withTrace tr) = (txTickOp s).withTrace tr := by
  simp only [txTickOp, driveSlot, apply_ite (State.withTrace tr), apply_dite (State.withTrace tr)]
  rfl

/-- An edge performs the same with any trace. -/
theorem clkEdge_withTrace (tr : List Code) {bits : BitVec 80} (h : clkEdge bits s = .next t) :
    clkEdge bits (s.withTrace tr) = .next (t.withTrace tr) := by
  cases hr : evRst bits with
  | true =>
    rw [clkEdge_rst bits s hr] at h
    cases h
    exact clkEdge_rst bits _ hr
  | false =>
    rw [clkEdge_eq bits s hr] at h
    cases h
    have hcount : bcCount (s.withTrace tr) = (bcCount s).withTrace tr := rfl
    have hport : (s.withTrace tr).sendIdPort = s.sendIdPort := rfl
    rw [clkEdge_eq bits _ hr]
    simp only [hcount, hport, readMailbox_withTrace, sendOp_withTrace, initRx_withTrace, initTx_withTrace, rxTickOp_withTrace,
      txTickOp_withTrace, onlyIf_withTrace]
    rfl

/-! ## Runs of edges, at their last edge -/

/-- A run of edges is a run of all but the last, and then the last. -/
theorem afterEdges_concat {es : List (BitVec 80)} {e : BitVec 80} (hs : s.Inv) (h : AfterEdges s (es ++ [e]) t) :
    ∃ u, AfterEdges s es u ∧ u.Inv ∧ clkEdge e (fetched [] u) = .next t := by
  induction es generalizing s with
  | nil =>
    obtain ⟨v, hv, hnil⟩ := (afterEdges_cons t e [] hs.launchable).mp h
    obtain ⟨-, -, htrace⟩ := clkEdge_keeps hv
    have htv : t = v := ((afterEdges_nil v t).mp hnil).trans (by rw [show [] = v.trace from htrace.symm])
    exact ⟨_, (afterEdges_nil s _).mpr rfl, { hs with }, htv ▸ hv⟩
  | cons e' es ih =>
    obtain ⟨v, hv, hrest⟩ := (afterEdges_cons t e' (es ++ [e]) hs.launchable).mp h
    obtain ⟨u, hu, hinv, hlast⟩ := ih (inv_of_answer (clkEdge_keeps_inv e' (fetched_keeps_inv _ hs)) hv) hrest
    have hfirst : clkEdge e' (fetched (edgeTrace es) s) = .next (v.withTrace (edgeTrace es)) := clkEdge_withTrace _ hv
    exact ⟨u, (afterEdges_cons u e' es hs.launchable).mpr ⟨_, hfirst, hu⟩, hinv, hlast⟩

theorem noReset_concat {es : List (BitVec 80)} {e : BitVec 80} (h : noReset (es ++ [e])) : noReset es ∧ evRst e = false :=
  ⟨fun d hd => h d (List.mem_append_left _ hd), h e (by simp)⟩

theorem noReset_take {es : List (BitVec 80)} (n : Nat) (h : noReset es) : noReset (es.take n) :=
  fun e he => h e (List.mem_of_mem_take he)

theorem afterEdges_cfg {es : List (BitVec 80)} (hs : s.Inv) (h : AfterEdges s es t) : t.cfg = s.cfg := by
  induction es using List.reverseRecOn generalizing t with
  | nil => rw [(afterEdges_nil s t).mp h]
  | append_singleton es e ih =>
    obtain ⟨u, hu, -, hlast⟩ := afterEdges_concat hs h
    obtain ⟨hcfg, -, -⟩ := clkEdge_keeps hlast
    have hu_cfg : u.cfg = s.cfg := ih hu
    exact hcfg.trans hu_cfg

/-! ## One edge of a running BitClock -/

theorem bitDiv_le_two_pow_cntW (c : Config) : c.bitDiv ≤ 2 ^ c.cntW :=
  leastWidth_holds _ _ _ (calc
    c.bitDiv ≤ 2 ^ c.bitDiv := Nat.lt_two_pow_self.le
    _ ≤ 2 ^ (1 + c.bitDiv) := Nat.pow_le_pow_right two_pos (Nat.le_add_left _ _))

/-- A running counter in its range counts modulo BIT_DIV: its width CNT_W is never exceeded (R105, R114). -/
theorem nextCount_running {c : Config} {cnt : Nat} (h : cnt < c.bitDiv) : nextCount c true cnt = (cnt + 1) % c.bitDiv := by
  by_cases hlast : cnt = c.bitDivPred
  · simp [nextCount, hlast, Config.bitDiv]
  · have hlt : cnt + 1 < c.bitDiv := by simp only [Config.bitDiv] at h ⊢; omega
    have hfit : cnt + 1 < 2 ^ c.cntW := hlt.trans_le (bitDiv_le_two_pow_cntW c)
    simp [nextCount, hlast, countUp, Nat.mod_eq_of_lt hlt, Nat.mod_eq_of_lt hfit]

theorem onlyIf_of_both {P : State → Prop} {c : Bool} (hs : P s) (ht : P t) : P (onlyIf c t s) := by
  cases c
  · exact hs
  · exact ht

/-- The RX BitClock runs and stands at a count. -/
def RxRunsAt (n : Nat) (s : State) : Prop := s.rxEn = true ∧ s.rxCnt = n

/-- The TX BitClock runs and stands at a count. -/
def TxRunsAt (n : Nat) (s : State) : Prop := s.txBusy = true ∧ s.txCnt = n

section

variable {n : Nat}

theorem bcCount_rxRunsAt (h : RxRunsAt n s) : RxRunsAt (nextCount s.cfg true n) (bcCount s) := by
  obtain ⟨hen, rfl⟩ := h
  exact ⟨hen, by simp [rxRuns, hen]⟩

theorem bcCount_txRunsAt (h : TxRunsAt n s) : TxRunsAt (nextCount s.cfg true n) (bcCount s) := by
  obtain ⟨hbusy, rfl⟩ := h
  exact ⟨hbusy, by simp [txRuns, hbusy]⟩

theorem readMailbox_rxRunsAt (h : RxRunsAt n s) : RxRunsAt n (readMailbox s) := by
  rcases readMailbox_cases s with ⟨-, hop⟩ | ⟨-, hop⟩ <;> rw [hop] <;> exact h

theorem readMailbox_txRunsAt (h : TxRunsAt n s) : TxRunsAt n (readMailbox s) := by
  rcases readMailbox_cases s with ⟨-, hop⟩ | ⟨-, hop⟩ <;> rw [hop] <;> exact h

theorem sendOp_rxRunsAt (id : Ident) (h : RxRunsAt n s) : RxRunsAt n (sendOp id s) := by
  rcases sendOp_cases id s with ⟨-, -, hop⟩ | ⟨-, hop⟩ <;> rw [hop] <;> exact h

/-- SEND does not restart a TX BitClock that runs: the busy-guard rejects it (R131). -/
theorem sendOp_txRunsAt (id : Ident) (h : TxRunsAt n s) : TxRunsAt n (sendOp id s) := by
  rcases sendOp_cases id s with ⟨-, hidle, -⟩ | ⟨-, hop⟩
  · exact absurd (hidle.symm.trans h.1) Bool.false_ne_true
  · rw [hop]; exact h

/-- INIT_RX does not restart an RX BitClock that runs: it is ignored (R116). -/
theorem initRx_rxRunsAt (ok : Bool) (h : RxRunsAt n s) : RxRunsAt n (initRx ok s) := by
  rcases initRx_cases ok s with ⟨-, hop⟩ | ⟨hoff, -⟩ | ⟨hoff, -⟩
  · rw [hop]; exact h
  all_goals exact absurd (hoff.symm.trans h.1) Bool.false_ne_true

theorem initRx_txRunsAt (ok : Bool) (h : TxRunsAt n s) : TxRunsAt n (initRx ok s) := by
  rcases initRx_cases ok s with ⟨-, hop⟩ | ⟨-, -, -, hop⟩ | ⟨-, -, -, hop⟩ <;> rw [hop] <;> exact h

theorem initTx_rxRunsAt (ok : Bool) (h : RxRunsAt n s) : RxRunsAt n (initTx ok s) := by
  rcases initTx_cases ok s with ⟨-, hop⟩ | ⟨-, -, -, hop⟩ | ⟨-, -, -, hop⟩ <;> rw [hop] <;> exact h

theorem initTx_txRunsAt (ok : Bool) (h : TxRunsAt n s) : TxRunsAt n (initTx ok s) := by
  rcases initTx_cases ok s with ⟨-, hop⟩ | ⟨-, -, -, hop⟩ | ⟨-, -, -, hop⟩ <;> rw [hop] <;> exact h

theorem rxTickOp_rxRunsAt (level : Bool) (h : RxRunsAt n s) : RxRunsAt n (rxTickOp level s) := by
  obtain ⟨hen, hcnt⟩ := h
  obtain ⟨hcnt', hen', -, -⟩ := rxTickOp_clock level s
  exact ⟨hen'.trans hen, hcnt'.trans hcnt⟩

theorem rxTickOp_txRunsAt (level : Bool) (h : TxRunsAt n s) : TxRunsAt n (rxTickOp level s) := by
  obtain ⟨hbusy, hcnt⟩ := h
  have hsame := rxTickOp_sameTx level s
  exact ⟨hsame.txBusy.trans hbusy, hsame.txCnt.trans hcnt⟩

theorem txTickOp_rxRunsAt (h : RxRunsAt n s) : RxRunsAt n (txTickOp s) := by
  obtain ⟨hen, hcnt⟩ := h
  have hsame := txTickOp_sameRx s
  exact ⟨hsame.rxEn.trans hen, hsame.rxCnt.trans hcnt⟩

/-- A TX_TICK leaves the counter; TX_TICK.end stops the TX BitClock, which "keeps its value" (R113). -/
theorem txTickOp_txCnt (s : State) : (txTickOp s).txCnt = s.txCnt := by
  rcases txTickOp_cases s with ⟨-, h⟩ | ⟨-, -, h⟩ | ⟨-, h8, h⟩ <;> rw [h]
  rcases driveSlot_cases (slotHere s h8) s h8 with ⟨_, hd⟩ | ⟨-, hd⟩ <;> rw [hd]

theorem clkEdge_rxRunsAt {e : BitVec 80} (hr : evRst e = false) (h : RxRunsAt n s) (ht : clkEdge e s = .next t) :
    RxRunsAt (nextCount s.cfg true n) t := by
  rw [clkEdge_eq e s hr] at ht
  cases ht
  have h0 := bcCount_rxRunsAt h
  have h1 := onlyIf_of_both (c := evMbRd e) h0 (readMailbox_rxRunsAt h0)
  have h2 := onlyIf_of_both (c := evSendReq e) h1 (sendOp_rxRunsAt s.sendIdPort h1)
  have h3 := onlyIf_of_both (c := evInitRx e) h2 (initRx_rxRunsAt (pinInitRxOk e) h2)
  have h4 := onlyIf_of_both (c := evInitTx e) h3 (initTx_rxRunsAt (pinInitTxOk e) h3)
  have h5 := onlyIf_of_both (c := rxTickDue s) h4 (rxTickOp_rxRunsAt (sampledLevel s) h4)
  exact onlyIf_of_both (c := txTickDue s) h5 (txTickOp_rxRunsAt h5)

/-- The edge may end the transmission; its counter has advanced all the same. -/
theorem clkEdge_txCnt {e : BitVec 80} (hr : evRst e = false) (h : TxRunsAt n s) (ht : clkEdge e s = .next t) :
    t.txCnt = nextCount s.cfg true n := by
  rw [clkEdge_eq e s hr] at ht
  cases ht
  have h0 := bcCount_txRunsAt h
  have h1 := onlyIf_of_both (c := evMbRd e) h0 (readMailbox_txRunsAt h0)
  have h2 := onlyIf_of_both (c := evSendReq e) h1 (sendOp_txRunsAt s.sendIdPort h1)
  have h3 := onlyIf_of_both (c := evInitRx e) h2 (initRx_txRunsAt (pinInitRxOk e) h2)
  have h4 := onlyIf_of_both (c := evInitTx e) h3 (initTx_txRunsAt (pinInitTxOk e) h3)
  obtain ⟨-, h5⟩ := onlyIf_of_both (c := rxTickDue s) h4 (rxTickOp_txRunsAt (sampledLevel s) h4)
  exact onlyIf_of_both (P := fun u => u.txCnt = nextCount s.cfg true n) (c := txTickDue s) h5 ((txTickOp_txCnt _).trans h5)

end

/-! ## The period of a BitClock -/

/-- One of the two BitClocks, by its run condition and its counter (R24): the counter stands in its range, and an edge without
RESET moves it by one modulo BIT_DIV where it runs (R114). -/
structure IsBitClock (runs : State → Bool) (cnt : State → Nat) : Prop where
  range : ∀ {s : State}, s.Inv → cnt s < s.cfg.bitDiv
  withTrace : ∀ (tr : List Code) (s : State), cnt (s.withTrace tr) = cnt s
  edge : ∀ {e : BitVec 80} {s t : State}, s.Inv → evRst e = false → runs s = true →
    clkEdge e (fetched [] s) = .next t → cnt t = (cnt s + 1) % s.cfg.bitDiv

theorem rxBitClock : IsBitClock rxRuns State.rxCnt where
  range hs := hs.rxCntRange
  withTrace _ _ := rfl
  edge {_ s _} hs hr hrun ht := by
    have h : RxRunsAt s.rxCnt (fetched [] s) := ⟨hrun, rfl⟩
    obtain ⟨-, hcnt⟩ := clkEdge_rxRunsAt hr h ht
    exact hcnt.trans (nextCount_running hs.rxCntRange)

theorem txBitClock : IsBitClock txRuns State.txCnt where
  range hs := hs.txCntRange
  withTrace _ _ := rfl
  edge {_ s _} hs hr hrun ht := by
    have h : TxRunsAt s.txCnt (fetched [] s) := ⟨hrun, rfl⟩
    exact (clkEdge_txCnt hr h ht).trans (nextCount_running hs.txCntRange)

/-- A BitClock runs before and after every edge of a list. -/
def RunsThrough (runs : State → Bool) (s : State) (es : List (BitVec 80)) : Prop :=
  ∀ n u, n ≤ es.length → AfterEdges s (es.take n) u → runs u = true

theorem RunsThrough.of_concat {runs : State → Bool} {es : List (BitVec 80)} {e : BitVec 80}
    (h : RunsThrough runs s (es ++ [e])) : RunsThrough runs s es := fun n u hn hu =>
  h n u (hn.trans (by simp)) (by rwa [List.take_append_of_le_length hn])

theorem RunsThrough.at_end {runs : State → Bool} {es : List (BitVec 80)} (h : RunsThrough runs s es)
    (ht : AfterEdges s es t) : runs t = true :=
  h es.length t le_rfl (by rwa [List.take_length])

/-- While a BitClock runs, its counter advances by the number of edges, modulo BIT_DIV. -/
theorem IsBitClock.count_afterEdges {runs : State → Bool} {cnt : State → Nat} (clock : IsBitClock runs cnt)
    {es : List (BitVec 80)} (hs : s.Inv) (hr : noReset es) (hrun : RunsThrough runs s es) (ht : AfterEdges s es t) :
    cnt t = (cnt s + es.length) % s.cfg.bitDiv := by
  induction es using List.reverseRecOn generalizing t with
  | nil =>
    rw [(afterEdges_nil s t).mp ht]
    exact (clock.withTrace [] s).trans (Nat.mod_eq_of_lt (clock.range hs)).symm
  | append_singleton es e ih =>
    obtain ⟨u, hu, hinv, hlast⟩ := afterEdges_concat hs ht
    obtain ⟨hes, he⟩ := noReset_concat hr
    have hcount : cnt u = (cnt s + es.length) % s.cfg.bitDiv := ih hes hrun.of_concat hu
    calc cnt t = (cnt u + 1) % u.cfg.bitDiv := clock.edge hinv he (hrun.of_concat.at_end hu) hlast
      _ = (cnt s + (es ++ [e]).length) % s.cfg.bitDiv := by
        rw [hcount, afterEdges_cfg hs hu, Nat.mod_add_mod, List.length_append, List.length_singleton, Nat.add_assoc]

/-- R115: a BitClock that started at 0 and runs without interruption ticks at every BIT_DIV-th edge. -/
theorem IsBitClock.due_iff {runs : State → Bool} {cnt : State → Nat} (clock : IsBitClock runs cnt)
    {es : List (BitVec 80)} (hs : s.Inv) (hr : noReset es) (hrun : RunsThrough runs s es) (ht : AfterEdges s es t)
    (h0 : cnt s = 0) : (runs t && cnt t == t.cfg.bitDivPred) = true ↔ (es.length + 1) % s.cfg.bitDiv = 0 := by
  rw [hrun.at_end ht, Bool.true_and, beq_iff_eq, clock.count_afterEdges hs hr hrun ht, afterEdges_cfg hs ht, h0, Nat.zero_add]
  exact Nat.succ_mod_succ_eq_zero_iff.symm

/-- Only RESET clears `rx_en`, so the RX BitClock runs on at every edge without it (R111, R23). -/
theorem afterEdges_rxEn {es : List (BitVec 80)} (hs : s.Inv) (hr : noReset es) (hen : s.rxEn = true)
    (ht : AfterEdges s es t) : t.rxEn = true := by
  induction es using List.reverseRecOn generalizing t with
  | nil => rw [(afterEdges_nil s t).mp ht]; exact hen
  | append_singleton es e ih =>
    obtain ⟨u, hu, -, hlast⟩ := afterEdges_concat hs ht
    obtain ⟨hes, he⟩ := noReset_concat hr
    have hu_en : u.rxEn = true := ih hes hu
    have h : RxRunsAt u.rxCnt (fetched [] u) := ⟨hu_en, rfl⟩
    exact (clkEdge_rxRunsAt he h hlast).1

end

/-- Settles O46: both counters count the edges since their start modulo BIT_DIV; RX runs on by itself, TX by hypothesis. -/
theorem periodLaw : Obligations.PeriodLaw := by
  intro s t es hs hr ht
  refine ⟨fun hen h0 => ?_, fun _ h0 hbusy => txBitClock.due_iff hs hr hbusy ht h0⟩
  have hrun : RunsThrough rxRuns s es := fun n _ _ hu => afterEdges_rxEn hs (noReset_take n hr) hen hu
  exact rxBitClock.due_iff hs hr hrun ht h0

end Sys2Proof.Machine
end

section
/-! PROOFS. The slots on the wire (R135). A transmission is described by how many slots it has driven: a TX tick drives the next
one, and at an edge nothing else writes the transmitter. So after `m` edges `m / BIT_DIV` slots are driven and the counter stands
at `m % BIT_DIV`, until the tick after the eightieth slot ends the transmission. -/

namespace Sys2Proof

/-- Level `10 y + b` of a frame is that of slot `b` of its byte `y` (R82, R85). -/
theorem frameEnv_getElem? (id : Ident) {y b : Nat} (hy : y < 8) (hb : b < 10) :
    (frameEnv id)[10 * y + b]? = some (slotEnv (frameBytes id)[y] b) := by
  have hlt : 10 * y + b < 80 := by omega
  have hdiv : (10 * y + b) / 10 = y := by omega
  have hmod : (10 * y + b) % 10 = b := by omega
  simp [frameEnv, hlt, hdiv, hmod, hy]

end Sys2Proof

namespace Sys2Proof.Machine

section

variable {s t : State} {id : Ident} {k : Nat}

/-- A transmission of `id` that has driven `k` slots: the position is the slot that is next, and the envelope is the level of the
slot before, which is 0 ahead of the first (R133, R135). -/
structure DrivenSlots (id : Ident) (k : Nat) (s : State) : Prop where
  busy : s.txBusy = true
  frame : s.txFrame = frameBytes id
  position : 10 * s.txByte.val + s.txBit.val = k
  envelope : some s.txEnv = (false :: frameEnv id)[k]?

/-! ## What a TX_TICK does to a transmission -/

/-- The slot that is driven next has the next level of the frame (R133, R85). -/
theorem DrivenSlots.slotHere_env (h : DrivenSlots id k s) (h8 : s.txByte.val < 8) :
    some (!slotHere s h8) = (frameEnv id)[k]? := by
  rw [← h.position, frameEnv_getElem? id h8 s.txBit.isLt]
  simp only [slotHere, h.frame]
  rfl

theorem txTickOp_drivenSlots (h : DrivenSlots id k s) (hk : k < 80) : DrivenSlots id (k + 1) (txTickOp s) := by
  have hpos := h.position
  rcases txTickOp_cases s with ⟨hidle, -⟩ | ⟨-, hend, -⟩ | ⟨-, h8, hop⟩
  · exact absurd (hidle.symm.trans h.busy) Bool.false_ne_true
  · omega
  · rw [hop]
    rcases driveSlot_cases (slotHere s h8) s h8 with ⟨_, hd⟩ | ⟨hlast, hd⟩ <;> rw [hd]
    · exact { h with position := congrArg (· + 1) hpos, envelope := h.slotHere_env h8 }
    · have hnext : 10 * (s.txByte.val + 1) + 0 = k + 1 := by omega
      exact { h with position := hnext, envelope := h.slotHere_env h8 }

/-- The tick after the eightieth slot is TX_TICK.end (R133, R134). -/
theorem txTickOp_ends (h : DrivenSlots id 80 s) : (txTickOp s).txBusy = false ∧ (txTickOp s).txEnv = false := by
  have hpos := h.position
  have hbit := s.txBit.isLt
  rcases txTickOp_cases s with ⟨hidle, -⟩ | ⟨-, -, hop⟩ | ⟨-, h8, -⟩
  · exact absurd (hidle.symm.trans h.busy) Bool.false_ne_true
  · rw [hop]
    exact ⟨rfl, rfl⟩
  · omega

/-! ## What the other operations of an edge do to it: nothing -/

theorem readMailbox_drivenSlots (h : DrivenSlots id k s) : DrivenSlots id k (readMailbox s) := by
  rcases readMailbox_cases s with ⟨-, hop⟩ | ⟨-, hop⟩ <;> rw [hop] <;> exact { h with }

/-- SEND does not touch a transmission: the busy-guard rejects it (R131). -/
theorem sendOp_drivenSlots (id' : Ident) (h : DrivenSlots id k s) : DrivenSlots id k (sendOp id' s) := by
  rcases sendOp_cases id' s with ⟨-, hidle, -⟩ | ⟨-, hop⟩
  · exact absurd (hidle.symm.trans h.busy) Bool.false_ne_true
  · rw [hop]
    exact { h with }

theorem initRx_drivenSlots (ok : Bool) (h : DrivenSlots id k s) : DrivenSlots id k (initRx ok s) := by
  rcases initRx_cases ok s with ⟨-, hop⟩ | ⟨-, -, -, hop⟩ | ⟨-, -, -, hop⟩ <;> rw [hop] <;> exact { h with }

theorem initTx_drivenSlots (ok : Bool) (h : DrivenSlots id k s) : DrivenSlots id k (initTx ok s) := by
  rcases initTx_cases ok s with ⟨-, hop⟩ | ⟨-, -, -, hop⟩ | ⟨-, -, -, hop⟩ <;> rw [hop] <;> exact { h with }

theorem rxTickOp_drivenSlots (level : Bool) (h : DrivenSlots id k s) : DrivenSlots id k (rxTickOp level s) := by
  have hsame := rxTickOp_sameTx level s
  exact
    { busy := hsame.txBusy.trans h.busy
      frame := hsame.txFrame.trans h.frame
      position := by rw [hsame.txByte, hsame.txBit, h.position]
      envelope := by rw [hsame.txEnv, h.envelope] }

/-! ## Edges of a transmission -/

/-- An edge without RESET does to a transmission what its TX tick does, if one is due (R229). -/
theorem clkEdge_drivenSlots {e : BitVec 80} (hr : evRst e = false) (h : DrivenSlots id k s) (ht : clkEdge e s = .next t) :
    ∃ u, DrivenSlots id k u ∧ t = shiftFree (pinRxIn e) (onlyIf (txTickDue s) (txTickOp u) u) := by
  rw [clkEdge_eq e s hr] at ht
  cases ht
  have h0 : DrivenSlots id k (bcCount s) := { h with }
  have h1 := onlyIf_of_both (c := evMbRd e) h0 (readMailbox_drivenSlots h0)
  have h2 := onlyIf_of_both (c := evSendReq e) h1 (sendOp_drivenSlots s.sendIdPort h1)
  have h3 := onlyIf_of_both (c := evInitRx e) h2 (initRx_drivenSlots (pinInitRxOk e) h2)
  have h4 := onlyIf_of_both (c := evInitTx e) h3 (initTx_drivenSlots (pinInitTxOk e) h3)
  exact ⟨_, onlyIf_of_both (c := rxTickDue s) h4 (rxTickOp_drivenSlots (sampledLevel s) h4), rfl⟩

theorem clkEdge_drivenSlots_idle {e : BitVec 80} (hr : evRst e = false) (h : DrivenSlots id k s) (hdue : txTickDue s = false)
    (ht : clkEdge e s = .next t) : DrivenSlots id k t := by
  obtain ⟨u, hu, rfl⟩ := clkEdge_drivenSlots hr h ht
  rw [hdue]
  exact { hu with }

theorem clkEdge_drivenSlots_due {e : BitVec 80} (hr : evRst e = false) (h : DrivenSlots id k s) (hk : k < 80)
    (hdue : txTickDue s = true) (ht : clkEdge e s = .next t) : DrivenSlots id (k + 1) t := by
  obtain ⟨u, hu, rfl⟩ := clkEdge_drivenSlots hr h ht
  rw [hdue]
  exact { txTickOp_drivenSlots hu hk with }

theorem clkEdge_ends {e : BitVec 80} (hr : evRst e = false) (h : DrivenSlots id 80 s) (hdue : txTickDue s = true)
    (ht : clkEdge e s = .next t) : t.txBusy = false ∧ t.txEnv = false := by
  obtain ⟨u, hu, rfl⟩ := clkEdge_drivenSlots hr h ht
  rw [hdue]
  exact txTickOp_ends hu

/-- A running TX BitClock that has counted `m` edges from 0 is due at the next one where BIT_DIV divides its number (R115). -/
theorem txTickDue_iff_of_count {m : Nat} (hbusy : s.txBusy = true) (hcnt : s.txCnt = m % s.cfg.bitDiv) :
    txTickDue s = true ↔ (m + 1) % s.cfg.bitDiv = 0 := by
  rw [txTickDue, txRuns, hbusy, Bool.true_and, beq_iff_eq, hcnt]
  exact Nat.succ_mod_succ_eq_zero_iff.symm

/-- Before edge 81 BIT_DIV, a transmission that starts at 0 has driven a slot for every BIT_DIV edges (R135). -/
theorem drivenSlots_afterEdges {es : List (BitVec 80)} (hs : s.Inv) (h0 : DrivenSlots id 0 s) (hcnt : s.txCnt = 0)
    (hr : noReset es) (hlen : es.length < 81 * s.cfg.bitDiv) (ht : AfterEdges s es t) :
    DrivenSlots id (es.length / s.cfg.bitDiv) t ∧ t.txCnt = es.length % s.cfg.bitDiv := by
  induction es using List.reverseRecOn generalizing t with
  | nil =>
    rw [(afterEdges_nil s t).mp ht, List.length_nil, Nat.zero_div, Nat.zero_mod]
    exact ⟨{ h0 with }, hcnt⟩
  | append_singleton es e ih =>
    obtain ⟨u, hu, hinv, hlast⟩ := afterEdges_concat hs ht
    obtain ⟨hes, he⟩ := noReset_concat hr
    have hcfg := afterEdges_cfg hs hu
    rw [List.length_append, List.length_singleton] at hlen ⊢
    obtain ⟨hdriven, hcount⟩ := ih hes (Nat.lt_of_succ_lt hlen) hu
    have hfetched : DrivenSlots id (es.length / s.cfg.bitDiv) (fetched [] u) := { hdriven with }
    have hdue : txTickDue u = true ↔ s.cfg.bitDiv ∣ es.length + 1 := by
      rw [txTickDue_iff_of_count hdriven.busy (hcfg ▸ hcount), hcfg, Nat.dvd_iff_mod_eq_zero]
    refine ⟨?_, ?_⟩
    · rw [Nat.succ_div]
      split
      next hdvd =>
        have hslot : es.length / s.cfg.bitDiv < 80 := by
          have hdiv : (es.length + 1) / s.cfg.bitDiv < 81 := Nat.div_lt_of_lt_mul (Nat.mul_comm _ _ ▸ hlen)
          rw [Nat.succ_div_of_dvd hdvd] at hdiv
          exact Nat.lt_of_succ_lt_succ hdiv
        exact clkEdge_drivenSlots_due he hfetched hslot (hdue.mpr hdvd) hlast
      next hdvd =>
        exact clkEdge_drivenSlots_idle he hfetched (Bool.eq_false_iff.mpr (mt hdue.mp hdvd)) hlast
    · calc t.txCnt = (u.txCnt + 1) % u.cfg.bitDiv := txBitClock.edge hinv he hdriven.busy hlast
        _ = (es.length + 1) % s.cfg.bitDiv := by rw [hcount, hcfg, Nat.mod_add_mod]

/-- At edge 81 BIT_DIV a transmission that starts at 0 ends (R134, R135). -/
theorem ends_afterEdges {es : List (BitVec 80)} (hs : s.Inv) (h0 : DrivenSlots id 0 s) (hcnt : s.txCnt = 0)
    (hr : noReset es) (hlen : es.length = 81 * s.cfg.bitDiv) (ht : AfterEdges s es t) :
    t.txBusy = false ∧ t.txEnv = false := by
  have hpos : 0 < s.cfg.bitDiv := Nat.succ_pos _
  rcases List.eq_nil_or_concat' es with rfl | ⟨es, e, rfl⟩
  · rw [List.length_nil] at hlen
    omega
  · obtain ⟨u, hu, -, hlast⟩ := afterEdges_concat hs ht
    obtain ⟨hes, he⟩ := noReset_concat hr
    have hcfg := afterEdges_cfg hs hu
    rw [List.length_append, List.length_singleton] at hlen
    obtain ⟨hdriven, hcount⟩ := drivenSlots_afterEdges hs h0 hcnt hes (by omega) hu
    have hall : es.length / s.cfg.bitDiv = 80 := Nat.div_eq_of_lt_le (by omega) (by omega)
    have hfetched : DrivenSlots id 80 (fetched [] u) := { hall ▸ hdriven with }
    have hdue : txTickDue u = true := by
      rw [txTickDue_iff_of_count hdriven.busy (hcfg ▸ hcount), hcfg, hlen, Nat.mul_mod_left]
    exact clkEdge_ends he hfetched hdue hlast

/-- An accepted SEND starts a transmission with no slot driven; the envelope of an idle transmitter is 0 (R131, R40). -/
theorem acceptSend_drivenSlots (id : Ident) (hs : s.Inv) (hbusy : s.txBusy = false) :
    DrivenSlots id 0 (acceptSend id s) where
  busy := rfl
  frame := rfl
  position := rfl
  envelope := congrArg some (hs.idleEnvelope hbusy)

theorem execSend_accepted (id : Ident) (hen : s.txEn = true) (hbusy : s.txBusy = false) :
    exec (.send id) s = .next (acceptSend id s) := by
  rcases sendOp_cases id s with ⟨-, -, hop⟩ | ⟨hoff | hon, -⟩
  · exact congrArg Host.Outcome.next hop
  · exact absurd (hoff.symm.trans hen) Bool.false_ne_true
  · exact absurd (hbusy.symm.trans hon) Bool.false_ne_true

end

/-- Settles O48: after `m` edges `m / BIT_DIV` slots are driven, so each clause is a range of `m` with one value of the quotient. -/
theorem slotsOnTheWire : Obligations.SlotsOnTheWire := by
  intro s s1 t id es hs hen hbusy hsend hr ht
  obtain rfl : acceptSend id s = s1 := Host.Outcome.next.inj ((execSend_accepted id hen hbusy).symm.trans hsend)
  have hinv := acceptSend_keeps_inv id hs hen
  have h0 := acceptSend_drivenSlots id hs hbusy
  have driven (hlen : es.length < 81 * s.cfg.bitDiv) :
      DrivenSlots id (es.length / s.cfg.bitDiv) t ∧ t.txCnt = es.length % s.cfg.bitDiv :=
    drivenSlots_afterEdges (s := acceptSend id s) hinv h0 rfl hr hlen ht
  refine ⟨fun hlen => ?_, fun n hn hfrom hto => ?_, fun hlen => ?_, fun hlen => ends_afterEdges hinv h0 rfl hr hlen ht⟩
  · obtain ⟨hdriven, -⟩ := driven (by omega)
    rw [Nat.div_eq_of_lt hlen] at hdriven
    exact Option.some.inj hdriven.envelope
  · have hbound : (n + 2) * s.cfg.bitDiv ≤ 81 * s.cfg.bitDiv := Nat.mul_le_mul_right _ (by omega)
    obtain ⟨hdriven, -⟩ := driven (hto.trans_le hbound)
    rw [Nat.div_eq_of_lt_le hfrom hto] at hdriven
    exact hdriven.envelope
  · obtain ⟨hdriven, hcount⟩ := driven hlen
    have hcfg : t.cfg = s.cfg := afterEdges_cfg (s := acceptSend id s) hinv ht
    refine ⟨hdriven.busy, ?_⟩
    rw [← hcfg] at hcount ⊢
    exact txTickDue_iff_of_count hdriven.busy hcount

end Sys2Proof.Machine
end

section
/-! PROOFS. The Bit Sampler (42_rx_sampler.md). The stop tick is BYTE_DONE of the byte with `rx_busy` cleared, because BYTE_DONE
neither reads nor writes `rx_busy`. A character under way is described by how many data levels it has sampled and by the byte they
make; a data tick takes one such state to the next, so nine ticks move nothing but the sampler. -/

namespace Sys2Proof

/-! ## The byte that levels assemble (R87) -/

/-- The byte after levels sampled one by one at bit positions `k`, `k + 1`, … (R152). -/
def assembled (k : Nat) (b : Byte) : List Bool → Byte
  | [] => b
  | l :: ls => assembled (k + 1) (b ||| bitAt l k) ls

theorem assembled_eight (l1 l2 l3 l4 l5 l6 l7 l8 : Bool) :
    assembled 0 0#8 [l1, l2, l3, l4, l5, l6, l7, l8] = asmByte l1 l2 l3 l4 l5 l6 l7 l8 := by
  simp only [assembled, asmByte, BitVec.zero_or]

theorem bitAt_getLsbD (v : Bool) {n i : Nat} (hi : i < 8) : (bitAt v n).getLsbD i = (v && decide (i = n)) := by
  cases v with
  | false => simp [bitAt]
  | true =>
    rw [Bool.eq_iff_iff]
    simp only [bitAt, if_true, BitVec.getLsbD_shiftLeft, BitVec.getLsbD_one, Bool.and_eq_true, Bool.not_eq_true',
      decide_eq_true_eq, decide_eq_false_iff_not, true_and]
    omega

/-- Slot `k + 1` of a character carries bit `k` of its byte, and `AsmByte` puts it back there (R85, R87). -/
theorem asmByte_slotBit (b : Byte) :
    asmByte (slotBit b 1) (slotBit b 2) (slotBit b 3) (slotBit b 4) (slotBit b 5) (slotBit b 6) (slotBit b 7)
      (slotBit b 8) = b := by
  apply BitVec.eq_of_getLsbD_eq
  intro i hi
  simp only [asmByte, BitVec.getLsbD_or, bitAt_getLsbD _ hi]
  interval_cases i <;> simp [slotBit]

end Sys2Proof

namespace Sys2Proof.Machine

section

variable {s : State}

/-! ## The stop tick is BYTE_DONE, back in Idle (R152, R154) -/

/-- A state with the sampler in Idle. -/
def State.idle (s : State) : State := { s with rxBusy := false }

theorem emitFrame_idle (id : Ident) (s : State) : emitFrame id s.idle = (emitFrame id s).idle := by
  simp only [emitFrame, apply_ite State.idle]
  rfl

theorem byteDoneOp_idle (b : Byte) (s : State) : byteDoneOp b s.idle = (byteDoneOp b s).idle := by
  have hsy : s.idle.syState = s.syState := rfl
  unfold byteDoneOp
  rw [hsy]
  cases s.syState with
  | wp1 | wp2 =>
    simp only [apply_ite State.idle]
    rfl
  | col =>
    simp only [apply_dite State.idle, ← emitFrame_idle]
    rfl

theorem stopChar_eq (s : State) : stopChar s = (byteDoneOp s.rxByte s).idle := byteDoneOp_idle s.rxByte s

/-- The level of the stop slot is not used (R154). -/
theorem rxTickOp_stop (level : Bool) (hen : s.rxEn = true) (hbusy : s.rxBusy = true) (h8 : s.rxIdx.val = 8) :
    rxTickOp level s = stopChar s := by
  simp [rxTickOp, rxRuns, hen, hbusy, h8]

theorem exec_rxTickStop (level : Bool) (hen : s.rxEn = true) (hbusy : s.rxBusy = true) (h8 : s.rxIdx.val = 8) :
    exec (.rxTickStop level) s = .next (stopChar s) := by
  have hsel : (rxRuns s && s.rxBusy && s.rxIdx.val == 8) = true := by simp [rxRuns, hen, hbusy, h8]
  exact congrArg (fun c => Host.Outcome.next (onlyIf c (stopChar s) s)) hsel

theorem exec_byteDone (hbusy : s.rxBusy = true) (h8 : s.rxIdx.val = 8) :
    exec .byteDone s = .next (byteDoneOp s.rxByte s) := by
  have hsel : (s.rxBusy && s.rxIdx.val == 8) = true := by simp [hbusy, h8]
  exact congrArg (fun c => Host.Outcome.next (onlyIf c (byteDoneOp s.rxByte s) s)) hsel

/-! ## A character under way (R152, R153) -/

/-- `s` with a character under way: `k` data levels sampled, the byte `b` so far. -/
def sampling (k : Nat) (b : Byte) (s : State) : State := { s with rxBusy := true, rxIdx := Fin.ofNat 9 k, rxByte := b }

theorem sampling_idx (b : Byte) (s : State) {k : Nat} (hk : k ≤ 8) : (sampling k b s).rxIdx.val = k :=
  Nat.mod_eq_of_lt (Nat.lt_succ_of_le hk)

theorem sampling_synchronizer (k : Nat) (b : Byte) (s : State) : Element.same s (sampling k b s) .synchronizer :=
  ⟨rfl, rfl, rfl⟩

theorem rxTickOp_data (level : Bool) (hen : s.rxEn = true) (hbusy : s.rxBusy = true) (h8 : s.rxIdx.val < 8) :
    rxTickOp level s = sampleData level s h8 := by
  simp [rxTickOp, rxRuns, hen, hbusy, h8]

theorem rxTickOp_low (hen : s.rxEn = true) (hidle : s.rxBusy = false) : rxTickOp false s = sampling 0 0#8 s := by
  simp [rxTickOp, rxRuns, hen, hidle, startChar, sampling]

theorem rxTickOp_sampling (level : Bool) (b : Byte) {k : Nat} (hen : s.rxEn = true) (hk : k < 8) :
    rxTickOp level (sampling k b s) = sampling (k + 1) (b ||| bitAt level k) s := by
  have hidx : (sampling k b s).rxIdx.val = k := sampling_idx b s hk.le
  have hdata : (sampling k b s).rxIdx.val < 8 := hidx.symm ▸ hk
  have hnext : (⟨(sampling k b s).rxIdx.val + 1, Nat.succ_lt_succ hdata⟩ : Fin 9) = Fin.ofNat 9 (k + 1) :=
    Fin.ext ((congrArg (· + 1) hidx).trans (Nat.mod_eq_of_lt (Nat.succ_lt_succ hk)).symm)
  calc rxTickOp level (sampling k b s)
      = sampleData level (sampling k b s) hdata := rxTickOp_data (s := sampling k b s) level hen rfl hdata
    _ = sampling (k + 1) (b ||| bitAt level k) s := by rw [sampleData, hnext, hidx]; rfl

theorem rxLevels_sampling (ls : List Bool) (b : Byte) {k : Nat} (hen : s.rxEn = true) (hk : k + ls.length ≤ 8) :
    rxLevels ls (sampling k b s) = sampling (k + ls.length) (assembled k b ls) s := by
  induction ls generalizing k b with
  | nil => rfl
  | cons l ls ih =>
    rw [List.length_cons] at hk ⊢
    calc rxLevels (l :: ls) (sampling k b s)
        = rxLevels ls (sampling (k + 1) (b ||| bitAt l k) s) :=
          congrArg (rxLevels ls) (rxTickOp_sampling l b hen (by omega))
      _ = sampling (k + 1 + ls.length) (assembled (k + 1) (b ||| bitAt l k) ls) s := ih _ (by omega)
      _ = sampling (k + (ls.length + 1)) (assembled k b (l :: ls)) s := by rw [Nat.add_right_comm]; rfl

/-- A low level from Idle and up to eight more: the character is under way. -/
theorem rxLevels_low_sampling (ls : List Bool) (hen : s.rxEn = true) (hidle : s.rxBusy = false) (h8 : ls.length ≤ 8) :
    rxLevels (false :: ls) s = sampling ls.length (assembled 0 0#8 ls) s := by
  calc rxLevels (false :: ls) s
      = rxLevels ls (sampling 0 0#8 s) := congrArg (rxLevels ls) (rxTickOp_low hen hidle)
    _ = sampling ls.length (assembled 0 0#8 ls) s := by rw [rxLevels_sampling ls 0#8 hen (by omega), Nat.zero_add]

end

/-- Settles O26: both rows are the stop tick, and BYTE_DONE and the clearing of `rx_busy` commute. -/
theorem stopSlotIsNotValidated : Obligations.StopSlotIsNotValidated := by
  intro s level i hen hbusy h8 hi
  refine ⟨byteDoneOp s.rxByte s, exec_byteDone hbusy h8, ?_⟩
  have hstop : exec i s = .next (stopChar s) := by
    rcases hi with rfl | rfl
    · exact congrArg Host.Outcome.next (rxTickOp_stop level hen hbusy h8)
    · exact exec_rxTickStop level hen hbusy h8
  rw [hstop, stopChar_eq]
  rfl

/-- Settles O33: after the start tick and up to eight more the character is under way; the tenth is the stop tick. -/
theorem characterTakesTenTicks : Obligations.CharacterTakesTenTicks := by
  intro s hen hidle
  refine ⟨fun l1 l2 l3 l4 l5 l6 l7 l8 l9 => ⟨fun n hfrom hto => ?_, ?_⟩, asmByte_slotBit⟩
  · obtain ⟨k, rfl⟩ := Nat.exists_eq_add_of_le' hfrom
    have hlen : ([l1, l2, l3, l4, l5, l6, l7, l8, l9].take k).length ≤ 8 := by rw [List.length_take]; omega
    rw [List.take_succ_cons, rxLevels_low_sampling _ hen hidle hlen]
    exact ⟨rfl, sampling_synchronizer _ _ s⟩
  · have hnine : rxLevels [false, l1, l2, l3, l4, l5, l6, l7, l8] s = sampling 8 (asmByte l1 l2 l3 l4 l5 l6 l7 l8) s := by
      rw [← assembled_eight]
      exact rxLevels_low_sampling [l1, l2, l3, l4, l5, l6, l7, l8] hen hidle (Nat.le_refl 8)
    calc rxLevels [false, l1, l2, l3, l4, l5, l6, l7, l8, l9] s
        = rxTickOp l9 (rxLevels [false, l1, l2, l3, l4, l5, l6, l7, l8] s) := rfl
      _ = stopChar (sampling 8 (asmByte l1 l2 l3 l4 l5 l6 l7 l8) s) := by
          rw [hnine]
          exact rxTickOp_stop l9 hen rfl (sampling_idx _ s (Nat.le_refl 8))
      _ = byteDoneOp (asmByte l1 l2 l3 l4 l5 l6 l7 l8)
            { s with rxBusy := false, rxIdx := 8, rxByte := asmByte l1 l2 l3 l4 l5 l6 l7 l8 } := rfl

end Sys2Proof.Machine
end

section
/-! PROOFS. The Frame Synchronizer (43_frame_sync.md). In WP1 a byte other than the first preamble byte changes nothing at all, so
a sequence of such bytes leaves the whole state as it was; the preamble bytes that follow then move it on from there. -/

namespace Sys2Proof.Machine

section

variable {s : State}

/-! ## The rows of WP1 and WP2 (R171) -/

theorem byteDoneOp_wp1_hit (h1 : s.syState = .wp1) : byteDoneOp Config.preamble1 s = { s with syState := .wp2 } := by
  simp [byteDoneOp, h1]

theorem byteDoneOp_wp1_miss {b : Byte} (h1 : s.syState = .wp1) (hb : b ≠ Config.preamble1) : byteDoneOp b s = s := by
  calc byteDoneOp b s
      = { s with syState := .wp1 } := by simp [byteDoneOp, h1, hb]
    _ = s := by rw [← h1]

theorem byteDoneOp_wp2_hit (h2 : s.syState = .wp2) :
    byteDoneOp Config.preamble2 s = { s with syState := .col, plIdx := 0 } := by
  simp [byteDoneOp, h2]

/-! ## Sequences of bytes -/

theorem bytesDone_append (bs cs : List Byte) (s : State) : bytesDone (bs ++ cs) s = bytesDone cs (bytesDone bs s) :=
  List.foldl_append

/-- Noise in WP1 changes nothing, the payload and the mailbox included (R174). -/
theorem bytesDone_noise {bs : List Byte} (h1 : s.syState = .wp1) (hnoise : ∀ b ∈ bs, b ≠ Config.preamble1) :
    bytesDone bs s = s := by
  induction bs with
  | nil => rfl
  | cons b bs ih =>
    obtain ⟨hb, hbs⟩ := List.forall_mem_cons.mp hnoise
    calc bytesDone (b :: bs) s
        = bytesDone bs s := congrArg (bytesDone bs) (byteDoneOp_wp1_miss h1 hb)
      _ = s := ih hbs

/-- Noise, then the first preamble byte. -/
theorem bytesDone_noise_preamble1 {bs : List Byte} (h1 : s.syState = .wp1) (hnoise : ∀ b ∈ bs, b ≠ Config.preamble1) :
    bytesDone (bs ++ [Config.preamble1]) s = { s with syState := .wp2 } := by
  rw [bytesDone_append, bytesDone_noise h1 hnoise]
  exact byteDoneOp_wp1_hit h1

/-- Noise, then the whole preamble: a payload begins. -/
theorem bytesDone_noise_preamble {bs : List Byte} (h1 : s.syState = .wp1) (hnoise : ∀ b ∈ bs, b ≠ Config.preamble1) :
    bytesDone (bs ++ [Config.preamble1, Config.preamble2]) s = { s with syState := .col, plIdx := 0 } := by
  rw [List.append_cons, bytesDone_append, bytesDone_noise_preamble1 h1 hnoise]
  exact byteDoneOp_wp2_hit (s := { s with syState := .wp2 }) rfl

end

/-- Settles O37: the first bytes of noise are noise, so they leave the state as it was; the preamble then moves the Synchronizer on. -/
theorem resyncUnderNoise : Obligations.ResyncUnderNoise := by
  intro s bs h1 hnoise
  refine ⟨fun n => ?_, ?_, ?_⟩
  · have htake : bytesDone (bs.take n) s = s := bytesDone_noise h1 fun b hb => hnoise b (List.mem_of_mem_take hb)
    rw [htake, h1]
  · exact congrArg State.syState (bytesDone_noise_preamble1 h1 hnoise)
  · exact congrArg State.syState (bytesDone_noise_preamble h1 hnoise)

end Sys2Proof.Machine
end

section
/-! PROOFS. A frame received whole (30_encoding.md R100, 43_frame_sync.md R172, 44_self_filter.md R192). Its levels are those of
its characters in turn. BYTE_DONE neither reads nor writes the sampler, so characters that arrive from Idle do to the rest of
the state what their bytes do one after another. The bytes of a frame, from WP1, end in FRAME_EMIT of its identity, and there the
Self-Filter drops LOCAL_ID. -/

namespace Sys2Proof

/-! ## The levels of a frame (R82) -/

/-- Level `n` of a sequence of characters is slot `n mod 10` of byte `n div 10`. -/
theorem map_slotBit_range (bs : List Byte) :
    (List.range (10 * bs.length)).map (fun n => slotBit (bs.getD (n / 10) 0#8) (n % 10)) = bs.flatMap charSlots := by
  induction bs with
  | nil => rfl
  | cons b bs ih =>
    have hlen : 10 * (b :: bs).length = 10 + 10 * bs.length := by rw [List.length_cons]; omega
    rw [hlen, List.range_add, List.map_append, List.map_map, List.flatMap_cons, ← ih]
    congr 1
    refine List.map_congr_left fun n _ => ?_
    have hbyte : (10 + n) / 10 = n / 10 + 1 := by omega
    simp [hbyte]

theorem frameSlots_eq (id : Ident) : frameSlots id = (frameBytes id).toList.flatMap charSlots := by
  rw [← map_slotBit_range]
  simp [frameSlots, frameEnv, slotEnv, envOf]

/-- A character: a low start slot, its byte's bits least significant first, a high stop slot (R81). -/
theorem charSlots_eq (b : Byte) :
    charSlots b = [false, slotBit b 1, slotBit b 2, slotBit b 3, slotBit b 4, slotBit b 5, slotBit b 6, slotBit b 7, slotBit b 8,
      true] := rfl

theorem frameSlots_length (id : Ident) : (frameSlots id).length = 80 := by simp [frameSlots]

/-! ## The payload that bytes fill (R172) -/

/-- The six bytes of an identity, in the order in which they arrive (R62). -/
def identBytes (id : Ident) : Vector Byte 6 :=
  #v[identByte id 0, identByte id 1, identByte id 2, identByte id 3, identByte id 4, identByte id 5]

/-- The payload buffer after bytes stored one by one at indices `k`, `k + 1`, … (R172). -/
def storedFrom (k : Nat) (pl : Vector Byte 6) : List Byte → Vector Byte 6
  | [] => pl
  | b :: bs => storedFrom (k + 1) (pl.setIfInBounds k b) bs

end Sys2Proof

namespace Sys2Proof.Machine

section

variable {s : State}

/-- RX_FRAME is one RX tick for each slot (R100). -/
theorem rxFrame_eq_rxLevels (id : Ident) (s : State) : rxFrame id s = rxLevels (frameSlots id) s := by
  rw [rxFrame, foldl_rxChar, frameSlots_eq]

/-! ## A role that is not enabled hears nothing (R255) -/

theorem rxTickOp_disabled (level : Bool) (hdis : s.rxEn = false) : rxTickOp level s = s := by
  simp [rxTickOp, rxRuns, hdis]

theorem rxLevels_disabled (levels : List Bool) (hdis : s.rxEn = false) : rxLevels levels s = s := by
  induction levels with
  | nil => rfl
  | cons l ls ih =>
    calc rxLevels (l :: ls) s
        = rxLevels ls s := congrArg (rxLevels ls) (rxTickOp_disabled l hdis)
      _ = s := ih

/-! ## BYTE_DONE has nothing to do with the sampler (R233) -/

/-- `s` with the sampler Idle after the byte `b`. -/
def State.received (b : Byte) (s : State) : State := { s with rxBusy := false, rxIdx := 8, rxByte := b }

theorem emitFrame_received (id : Ident) (b : Byte) (s : State) :
    emitFrame id (s.received b) = (emitFrame id s).received b := by
  simp only [emitFrame, apply_ite (State.received b)]
  rfl

theorem byteDoneOp_received (c b : Byte) (s : State) : byteDoneOp c (s.received b) = (byteDoneOp c s).received b := by
  have hsy : (s.received b).syState = s.syState := rfl
  unfold byteDoneOp
  rw [hsy]
  cases s.syState with
  | wp1 | wp2 =>
    simp only [apply_ite (State.received b)]
    rfl
  | col =>
    simp only [apply_dite (State.received b), ← emitFrame_received]
    rfl

theorem bytesDone_received (bs : List Byte) (b : Byte) (s : State) :
    bytesDone bs (s.received b) = (bytesDone bs s).received b := by
  induction bs generalizing s with
  | nil => rfl
  | cons c cs ih =>
    calc bytesDone (c :: cs) (s.received b)
        = bytesDone cs ((byteDoneOp c s).received b) := congrArg (bytesDone cs) (byteDoneOp_received c b s)
      _ = (bytesDone (c :: cs) s).received b := ih (byteDoneOp c s)

/-! ## Characters that arrive from Idle (R153) -/

theorem rxChar_idle (b : Byte) (hen : s.rxEn = true) (hidle : s.rxBusy = false) :
    rxChar b s = (byteDoneOp b s).received b := by
  obtain ⟨hticks, -⟩ := characterTakesTenTicks s hen hidle
  obtain ⟨-, hten⟩ := hticks (slotBit b 1) (slotBit b 2) (slotBit b 3) (slotBit b 4) (slotBit b 5) (slotBit b 6) (slotBit b 7)
    (slotBit b 8) true
  rw [asmByte_slotBit] at hten
  calc rxChar b s
      = byteDoneOp b (s.received b) := by
        rw [rxChar, charSlots_eq]
        exact hten
    _ = (byteDoneOp b s).received b := byteDoneOp_received b b s

theorem byteDoneOp_rxEn (b : Byte) (s : State) : (byteDoneOp b s).rxEn = s.rxEn := by
  obtain ⟨-, -, -, -, hen, -, -⟩ := byteDoneOp_sampler b s
  exact hen

/-- Characters from Idle are their bytes, one after another; the sampler is left Idle after the last. -/
theorem foldl_rxChar_idle (bs : List Byte) (b : Byte) (hen : s.rxEn = true) (hidle : s.rxBusy = false) :
    (bs ++ [b]).foldl (fun t c => rxChar c t) s = (bytesDone (bs ++ [b]) s).received b := by
  induction bs generalizing s with
  | nil => simpa [bytesDone] using rxChar_idle b hen hidle
  | cons c cs ih =>
    have hen' : ((byteDoneOp c s).received c).rxEn = true := (byteDoneOp_rxEn c s).trans hen
    calc (c :: (cs ++ [b])).foldl (fun t c => rxChar c t) s
        = (cs ++ [b]).foldl (fun t c => rxChar c t) ((byteDoneOp c s).received c) :=
          congrArg (List.foldl _ · (cs ++ [b])) (rxChar_idle c hen hidle)
      _ = (bytesDone (cs ++ [b]) ((byteDoneOp c s).received c)).received b := ih hen' rfl
      _ = (bytesDone (c :: (cs ++ [b])) s).received b := by rw [bytesDone_received]; rfl

/-! ## A payload under way (R172) -/

/-- `s` with a payload under way: `k` bytes stored, the buffer `pl` so far. -/
def collecting (k : Nat) (pl : Vector Byte 6) (s : State) : State :=
  { s with syState := .col, plIdx := Fin.ofNat 6 k, pl := pl }

/-- A byte before the sixth is stored at the index, which moves on. -/
theorem byteDoneOp_collecting (b : Byte) (pl : Vector Byte 6) (s : State) {k : Nat} (hk : k < 5) :
    byteDoneOp b (collecting k pl s) = collecting (k + 1) (pl.setIfInBounds k b) s := by
  -- the store of BYTE_DONE carries the bound of its index
  have hset : pl.setIfInBounds k b = pl.set k b (by omega) := by grind
  rw [hset]
  interval_cases k <;> rfl

theorem bytesDone_collecting (bs : List Byte) (pl : Vector Byte 6) (s : State) {k : Nat} (hk : k + bs.length ≤ 5) :
    bytesDone bs (collecting k pl s) = collecting (k + bs.length) (storedFrom k pl bs) s := by
  induction bs generalizing k pl with
  | nil => rfl
  | cons b bs ih =>
    rw [List.length_cons] at hk ⊢
    calc bytesDone (b :: bs) (collecting k pl s)
        = bytesDone bs (collecting (k + 1) (pl.setIfInBounds k b) s) :=
          congrArg (bytesDone bs) (byteDoneOp_collecting b pl s (by omega))
      _ = collecting (k + 1 + bs.length) (storedFrom (k + 1) (pl.setIfInBounds k b) bs) s := ih _ (by omega)
      _ = collecting (k + (bs.length + 1)) (storedFrom k pl (b :: bs)) s := by rw [Nat.add_right_comm]; rfl

/-- `s` with a payload completed: `pl` collected, back in WP1. -/
def collected (pl : Vector Byte 6) (s : State) : State := { s with syState := .wp1, plIdx := 5, pl := pl }

/-- The sixth byte completes the payload (R172). -/
theorem byteDoneOp_collecting_last (b : Byte) (pl : Vector Byte 6) (s : State) :
    byteDoneOp b (collecting 5 pl s) = emitFrame (payloadIdent pl b) (collected (pl.set 5 b) s) := rfl

/-- Six bytes fill the payload, and the identity they are is emitted (R172). -/
theorem bytesDone_payload (b0 b1 b2 b3 b4 b5 : Byte) (pl : Vector Byte 6) (s : State) :
    bytesDone [b0, b1, b2, b3, b4, b5] (collecting 0 pl s) =
      emitFrame (packIdent b0 b1 b2 b3 b4 b5) (collected #v[b0, b1, b2, b3, b4, b5] s) := by
  have hfive : bytesDone [b0, b1, b2, b3, b4] (collecting 0 pl s) = collecting 5 (storedFrom 0 pl [b0, b1, b2, b3, b4]) s :=
    bytesDone_collecting [b0, b1, b2, b3, b4] pl s (Nat.le_refl 5)
  have hid : payloadIdent (storedFrom 0 pl [b0, b1, b2, b3, b4]) b5 = packIdent b0 b1 b2 b3 b4 b5 := by
    simp [payloadIdent, storedFrom]
  have hpl : (storedFrom 0 pl [b0, b1, b2, b3, b4]).set 5 b5 = #v[b0, b1, b2, b3, b4, b5] := by
    ext i hi
    interval_cases i <;> simp [storedFrom]
  calc bytesDone [b0, b1, b2, b3, b4, b5] (collecting 0 pl s)
      = byteDoneOp b5 (bytesDone [b0, b1, b2, b3, b4] (collecting 0 pl s)) := rfl
    _ = emitFrame (packIdent b0 b1 b2 b3 b4 b5) (collected #v[b0, b1, b2, b3, b4, b5] s) := by
        rw [hfive, byteDoneOp_collecting_last, hid, hpl]

/-! ## A frame that arrives from Idle in WP1 -/

/-- The bytes of a frame, from WP1, end in FRAME_EMIT of its identity (R172, R62). -/
theorem bytesDone_frame (id : Ident) (h1 : s.syState = .wp1) :
    bytesDone (frameBytes id).toList s = emitFrame id (collected (identBytes id) s) := by
  have hpre : bytesDone [Config.preamble1, Config.preamble2] s = collecting 0 s.pl s :=
    bytesDone_noise_preamble (bs := []) h1 (by simp)
  calc bytesDone (frameBytes id).toList s
      = bytesDone [identByte id 0, identByte id 1, identByte id 2, identByte id 3, identByte id 4, identByte id 5]
          (bytesDone [Config.preamble1, Config.preamble2] s) := rfl
    _ = emitFrame id (collected (identBytes id) s) := by rw [hpre, bytesDone_payload, packIdent_identByte, identBytes]

/-- RX_FRAME from Idle in WP1 is FRAME_EMIT of its identity, with the sampler left Idle after the last byte. -/
theorem rxFrame_idle (id : Ident) (hen : s.rxEn = true) (hidle : s.rxBusy = false) (h1 : s.syState = .wp1) :
    rxFrame id s = (emitFrame id (collected (identBytes id) s)).received (identByte id 5) := by
  rw [← bytesDone_frame id h1]
  exact foldl_rxChar_idle [Config.preamble1, Config.preamble2, identByte id 0, identByte id 1, identByte id 2, identByte id 3,
    identByte id 4] (identByte id 5) hen hidle

/-- The Self-Filter drops the local identity: nothing at all is changed (R191). -/
theorem emitFrame_localId (s : State) : emitFrame s.cfg.localId s = s :=
  if_pos ((sameIdent_iff _ _).mpr rfl)

/-- A device's own frame moves its sampler and its Synchronizer, and nothing else (R192). -/
theorem rxFrame_localId (hen : s.rxEn = true) (hidle : s.rxBusy = false) (h1 : s.syState = .wp1) :
    rxFrame s.cfg.localId s = (collected (identBytes s.cfg.localId) s).received (identByte s.cfg.localId 5) :=
  (rxFrame_idle s.cfg.localId hen hidle h1).trans
    (congrArg (State.received _) (emitFrame_localId (collected (identBytes s.cfg.localId) s)))

theorem rxFrame_localId_mailbox (hidle : s.rxBusy = false) (h1 : s.syState = .wp1) :
    (rxFrame s.cfg.localId s).mbReady = s.mbReady ∧ (rxFrame s.cfg.localId s).mbSlot = s.mbSlot := by
  cases hen : s.rxEn with
  | false =>
    rw [rxFrame_eq_rxLevels, rxLevels_disabled _ hen]
    exact ⟨rfl, rfl⟩
  | true =>
    rw [rxFrame_localId hen hidle h1]
    exact ⟨rfl, rfl⟩

end

/-- Settles O36: with the role disabled nothing is heard; else the frame's bytes end in FRAME_EMIT of LOCAL_ID, which drops it. -/
theorem selfSuppression : Obligations.SelfSuppression := by
  intro s hidle h1
  obtain ⟨hready, hslot⟩ := rxFrame_localId_mailbox hidle h1
  exact ⟨hready, hslot, rxFrame_eq_rxLevels _ s, frameSlots_length _⟩

end Sys2Proof.Machine
end

section
/-! PROOFS. The mailbox under any MB_WRITEs and MB_READs (45_mailbox.md R200, R203). A read answers what the mailbox holds, and what
it holds is decided by the last use alone. -/

namespace Sys2Proof.Machine

/-- The identity the mailbox holds for the next MB_READ: the slot while `mb_ready = 1`, none otherwise (R202). -/
def unread (s : State) : Option Ident := if s.mbReady then some s.mbSlot else none

theorem unread_of_mbReady_false {s : State} (h : s.mbReady = false) : unread s = none := by
  simp [unread, h]

@[simp] theorem unread_putMailbox (id : Ident) (s : State) : unread (putMailbox id s) = some id := rfl

@[simp] theorem readMailbox_mbReady (s : State) : (readMailbox s).mbReady = false := by
  obtain ⟨-, h⟩ | ⟨hempty, h⟩ := readMailbox_cases s
  · rw [h]
  · rw [h, hempty]

@[simp] theorem unread_readMailbox (s : State) : unread (readMailbox s) = none :=
  unread_of_mbReady_false (readMailbox_mbReady s)

/-- MB_READ answers what the mailbox held (R202). -/
theorem readMailbox_readResp (s : State) : (readMailbox s).readResp = some (unread s) := by
  obtain ⟨hfull, h⟩ | ⟨hempty, h⟩ := readMailbox_cases s
  · simp [h, unread, hfull]
  · simp [h, unread, hempty]

/-- One use of the mailbox: MB_WRITE of an identity, or MB_READ. -/
def useMailbox (s : State) : Option Ident → State
  | some id => putMailbox id s
  | none => readMailbox s

/-- A use decides alone what the mailbox then holds: a write overwrites, a read clears (R200). -/
theorem unread_useMailbox (s : State) (o : Option Ident) : unread (useMailbox s o) = o := by
  cases o with
  | some id => exact unread_putMailbox id s
  | none => exact unread_readMailbox s

/-- So after any uses of an empty mailbox the last one alone counts. -/
theorem unread_foldl_useMailbox {s : State} (ops : List (Option Ident)) (hs : s.mbReady = false) :
    unread (ops.foldl useMailbox s) = ops.getLast?.join := by
  obtain rfl | ⟨before, last, rfl⟩ := ops.eq_nil_or_concat'
  · exact unread_of_mbReady_false hs
  · rw [List.foldl_concat, unread_useMailbox, List.getLast?_concat, Option.join_some]

/-- Settles O40: a read answers what the mailbox holds, and that is what the last use left in it. -/
theorem mailboxKeepsTheLastWrite : Obligations.MailboxKeepsTheLastWrite := by
  intro s ops hs
  have hread : (readMailbox (ops.foldl useMailbox s)).readResp = some ops.getLast?.join :=
    (readMailbox_readResp _).trans (congrArg some (unread_foldl_useMailbox ops hs))
  exact ⟨readMailbox (ops.foldl useMailbox s), rfl, hread, readMailbox_mbReady _⟩

end Sys2Proof.Machine
end

section
/-! PROOFS. The codes (30_encoding.md). A code's bits are read field by field, so each decoder is brought to a few fields that
the encoder has written; where a field is narrow, the decoder is a finite table. -/

namespace Sys2Proof

/-! ## Fields that a decoder reads -/

/-- The low bits of a vector written into a code are the vector. -/
theorem extractLsb'_setWidth {w : Nat} (v : BitVec w) (hw : w ≤ 80) : (v.setWidth 80).extractLsb' 0 w = v := by
  refine BitVec.eq_of_getLsbD_eq fun i hi => ?_
  have h80 : i < 80 := hi.trans_le hw
  simp [hi, h80]

theorem fieldAt_zero_extractLsb' {w : Nat} (x : BitVec w) (hw : w ≤ 80) : (fieldAt x 0).extractLsb' 0 w = x := by
  refine BitVec.eq_of_getLsbD_eq fun i hi => ?_
  have h80 : i < 80 := hi.trans_le hw
  simp only [BitVec.getLsbD_extractLsb', fieldAt_getLsbD]
  simp [hi, h80]

theorem txdBits_extractLsb' (y slot : BitVec 4) : (txdBits y slot).extractLsb' 0 8 = y ++ slot := by
  revert y slot
  decide

/-- HSD of an accepted SEND, with its identity beside it (log 8). -/
theorem sendAccept_fields (id : Ident) :
    (fieldAt 0b10#2 0 ||| fieldAt id 16).extractLsb' 0 2 = 0b10#2 ∧ pinSendId (fieldAt 0b10#2 0 ||| fieldAt id 16) = id := by
  refine ⟨BitVec.eq_of_getLsbD_eq fun i hi => ?_, BitVec.eq_of_getLsbD_eq fun i hi => ?_⟩
  · have h80 : i < 80 := by omega
    have h16 : ¬ 16 ≤ i := by omega
    simp only [BitVec.getLsbD_extractLsb', BitVec.getLsbD_or, fieldAt_getLsbD]
    simp [hi, h80, h16]
  · have h80 : 16 + i < 80 := by omega
    have hvector : (0b10#2).getLsbD (16 + i) = false := BitVec.getLsbD_of_ge _ _ (by omega)
    simp only [pinSendId, BitVec.getLsbD_extractLsb', BitVec.getLsbD_or, fieldAt_getLsbD]
    simp [hi, h80, hvector]

/-! ## The decoders on what the encoder writes -/

theorem decode_evBits (ev : BitVec 7) (level okRx okTx : Bool) (id : Ident) :
    decode ⟨.ev, evBits ev level okRx okTx id⟩ =
      if ev.getLsbD 6 then .ok .reset
      else if ev = 0x00#7 then .ok .nop
      else if ev = 0x20#7 then .ok .mbRead
      else if ev = 0x10#7 then .ok (.send id)
      else if ev = 0x08#7 then .ok (.initRx okRx)
      else if ev = 0x04#7 then .ok (.initTx okTx)
      else if ev = 0x02#7 then .ok (.rxTick level)
      else if ev = 0x01#7 then .ok .txTick
      else .error .severalOperations := by
  simp only [decode, decodeEv, evRst_evBits, evOf_evBits, pinSendId_evBits, pinInitRxOk_evBits, pinInitTxOk_evBits,
    pinRxIn_evBits]

theorem decode_txdBits (y slot : BitVec 4) : decode ⟨.txd, txdBits y slot⟩ = decodeTxd (y ++ slot) := by
  simp only [decode, txdBits_extractLsb']

/-- The rows that drive the ten slots of frame byte `y`, in time order (R93). -/
def slotRows (y : BitVec 4) : List Instr :=
  [.txTickStart y, .txTickDataD0 y, .txTickDataD1 y, .txTickDataD2 y, .txTickDataD3 y, .txTickDataD4 y, .txTickDataD5 y,
    .txTickDataD6 y, .txTickDataD7 y, .txTickStop y]

/-- TXD with a byte index below 8 and a slot below 10 selects the row of that slot (R93). -/
theorem decodeTxd_slotRows :
    ∀ (y : BitVec 4) (k : Fin 10), indexFits y → some (decodeTxd (y ++ BitVec.ofNat 4 k.val)) = (slotRows y)[k.val]?.map .ok := by
  decide

theorem decode_slotRow {y : BitVec 4} {i : Instr} (k : Fin 10) (hy : indexFits y) (hi : (slotRows y)[k.val]? = some i) :
    decode ⟨.txd, txdBits y (BitVec.ofNat 4 k.val)⟩ = .ok i := by
  have h := decodeTxd_slotRows y k hy
  rw [hi] at h
  rw [decode_txdBits]
  exact Option.some.inj h

theorem decode_rxTickData (idx : BitVec 4) (v : Bool) (h : indexFits idx) :
    decode (encode (.rxTickData idx v)) = .ok (.rxTickData idx v) := by
  revert idx v
  decide

theorem decode_rxTickStop (level : Bool) : decode (encode (.rxTickStop level)) = .ok (.rxTickStop level) := by
  cases level <;> rfl

theorem decode_sendAccept (id : Ident) : decode (encode (.sendAccept id)) = .ok (.sendAccept id) := by
  obtain ⟨hvector, hid⟩ := sendAccept_fields id
  simp only [decode, encode, hvector, hid]
  rfl

theorem decode_char (b : Byte) : decode (encode (.char b)) = .ok (.char b) := by
  simp only [decode, encode, fieldAt_zero_extractLsb' (charBits b) (by decide), unCharBits_charBits]

theorem decode_frame (id : Ident) : decode (encode (.frame id)) = .ok (.frame id) := by
  simp only [decode, encode, unFrameBits_frameBits]

theorem decode_id48 (id : Ident) : decode (encode (.id48 id)) = .ok (.id48 id) := by
  simp only [decode, encode, fieldAt_zero_extractLsb' id (by decide)]

theorem decode_ivl (id : Ident) : decode (encode (.ivl id)) = .ok (.ivl id) := by
  simp only [decode, encode, BitVec.not_not, unFrameBits_frameBits]

/-- Settles O6: the rows of EV, of the slots, of the wire and those with operands by the lemmas above; the code of any other row is
a literal. -/
theorem decodeOfEncodeIsTheRow : Obligations.DecodeOfEncodeIsTheRow := by
  intro i hwf
  cases i with
  | reset | mbRead | send | initRx | initTx | rxTick | txTick | nop => exact decode_evBits ..
  | rxTickData idx v => exact decode_rxTickData idx v (of_decide_eq_true hwf)
  | rxTickStop level => exact decode_rxTickStop level
  | txTickStart y => exact decode_slotRow 0 (of_decide_eq_true hwf) rfl
  | txTickDataD0 y => exact decode_slotRow 1 (of_decide_eq_true hwf) rfl
  | txTickDataD1 y => exact decode_slotRow 2 (of_decide_eq_true hwf) rfl
  | txTickDataD2 y => exact decode_slotRow 3 (of_decide_eq_true hwf) rfl
  | txTickDataD3 y => exact decode_slotRow 4 (of_decide_eq_true hwf) rfl
  | txTickDataD4 y => exact decode_slotRow 5 (of_decide_eq_true hwf) rfl
  | txTickDataD5 y => exact decode_slotRow 6 (of_decide_eq_true hwf) rfl
  | txTickDataD6 y => exact decode_slotRow 7 (of_decide_eq_true hwf) rfl
  | txTickDataD7 y => exact decode_slotRow 8 (of_decide_eq_true hwf) rfl
  | txTickStop y => exact decode_slotRow 9 (of_decide_eq_true hwf) rfl
  | sendAccept id => exact decode_sendAccept id
  | char b => exact decode_char b
  | frame id => exact decode_frame id
  | id48 id => exact decode_id48 id
  | ivl id => exact decode_ivl id
  | bcClk | rxTickIdleHigh | rxTickStart | byteDoneWp1Hit | byteDoneWp1Miss | byteDoneWp2Hit | byteDoneWp2Miss
  | byteDoneColStore | byteDoneColLast | txTickEnd | sendRejectDisabled | sendRejectBusy | mbReadFull | mbReadEmpty | initRxOk
  | initRxFail | initRxIgnoredEnabled | initRxIgnoredFailed | initTxOk | initTxFail | initTxIgnoredEnabled
  | initTxIgnoredFailed | frameEmitDrop | frameEmitForward | bcStartRx | bcStartTx | bcStop | byteDone | frameEmit
  | mbWrite => rfl

/-! ## What decodes -/

theorem wf_of_answer {r : Except Reject Instr} {i : Instr} (hr : r.toOption.all Instr.wf = true) (hi : r = .ok i) :
    i.wf = true := by
  rw [hi] at hr
  exact hr

theorem decodeEv_wf (bits : BitVec 80) : (decodeEv bits).toOption.all Instr.wf = true := by
  unfold decodeEv
  split_ifs <;> rfl

theorem decodeClk_wf (bits : BitVec 80) : (decodeClk bits).toOption.all Instr.wf = true := by
  unfold decodeClk
  split_ifs <;> rfl

theorem decodeRxd_wf : ∀ v : BitVec 6, (decodeRxd v).toOption.all Instr.wf = true := by decide

theorem decodeSyd_wf : ∀ v : BitVec 5, (decodeSyd v).toOption.all Instr.wf = true := by decide

theorem decodeTxd_wf : ∀ v : BitVec 8, (decodeTxd v).toOption.all Instr.wf = true := by decide

theorem decodeHsdSend_wf (v : BitVec 2) (id : Ident) : (decodeHsdSend v id).toOption.all Instr.wf = true := by
  unfold decodeHsdSend
  split_ifs <;> rfl

theorem decodeHsdMbRead_wf : ∀ v : BitVec 1, (decodeHsdMbRead v).toOption.all Instr.wf = true := by decide

theorem decodeHsdInitRx_wf : ∀ v : BitVec 3, (decodeHsdInitRx v).toOption.all Instr.wf = true := by decide

theorem decodeHsdInitTx_wf : ∀ v : BitVec 3, (decodeHsdInitTx v).toOption.all Instr.wf = true := by decide

theorem decodeHsdEmit_wf : ∀ v : BitVec 1, (decodeHsdEmit v).toOption.all Instr.wf = true := by decide

theorem decodeCall_wf (hit : Bool) {i : Instr} (hi : i.wf = true) : (decodeCall hit i).toOption.all Instr.wf = true := by
  cases hit
  · rfl
  · exact hi

theorem decode_wf (c : Code) : (decode c).toOption.all Instr.wf = true := by
  obtain ⟨fmt, bits⟩ := c
  cases fmt with
  | ev => exact decodeEv_wf _
  | clk => exact decodeClk_wf _
  | rxd => exact decodeRxd_wf _
  | syd => exact decodeSyd_wf _
  | txd => exact decodeTxd_wf _
  | hsdSend => exact decodeHsdSend_wf _ _
  | hsdMbRead => exact decodeHsdMbRead_wf _
  | hsdInitRx => exact decodeHsdInitRx_wf _
  | hsdInitTx => exact decodeHsdInitTx_wf _
  | hsdEmit => exact decodeHsdEmit_wf _
  | callBcStartRx | callBcStartTx | callBcStop | callByteDone | callFrameEmit | callMbWrite => exact decodeCall_wf _ rfl
  | char | frame | ivl =>
    simp only [decode]
    split <;> rfl
  | id48 => rfl

/-- Settles O7: each decoder answers a row whose index it has compared with 8, or a row with no index. -/
theorem decodedRowsAreWellFormed : Obligations.DecodedRowsAreWellFormed := fun c _ h => wf_of_answer (decode_wf c) h

/-! ## The wire codes, slot by slot (R81, R82, R85) -/

/-- Fields of ten bits at multiples of ten do not overlap. -/
theorem fieldAt_getLsbD_char (c : BitVec 10) {n m j : Nat} (hn : n % 10 = 0) (hm : m % 10 = 0) (h80 : m < 80) (hj : j < 10) :
    (fieldAt c n).getLsbD (m + j) = (decide (n = m) && c.getLsbD j) := by
  have hbound : m + j < 80 := by omega
  rw [fieldAt_getLsbD]
  by_cases hnm : n = m
  · simp [hnm, hbound]
  · by_cases hle : n ≤ m + j
    · have hout : c.getLsbD (m + j - n) = false := BitVec.getLsbD_of_ge _ _ (by omega)
      simp [hnm, hout]
    · simp [hnm, hle]

/-- Character `y` of a frame's pattern stands at its place of ten bits, the first in the most significant (R82). -/
theorem frameBits_getLsbD (id : Ident) (y : Fin 8) {j : Nat} (hj : j < 10) :
    (frameBits id).getLsbD (10 * (7 - y.val) + j) = (charBits (frameBytes id)[y.val]).getLsbD j := by
  have hm : 10 * (7 - y.val) % 10 = 0 := by omega
  have h80 : 10 * (7 - y.val) < 80 := by omega
  have field (c : BitVec 10) (n : Nat) (hn : n % 10 = 0) := fieldAt_getLsbD_char c hn hm h80 hj
  simp only [frameBits, BitVec.getLsbD_or, field, Nat.reduceMod, Nat.zero_mod]
  fin_cases y <;> simp [frameBytes]

/-- Bit `79 - n` of a frame's pattern is slot `n mod 10` of its byte `n div 10` (R85). -/
theorem frameBits_slotBit (id : Ident) {n : Nat} (hn : n < 80) :
    (frameBits id).getLsbD (79 - n) = slotBit ((frameBytes id).toList.getD (n / 10) 0#8) (n % 10) := by
  have hy : n / 10 < 8 := by omega
  have hk : n % 10 < 10 := by omega
  have hpos : 79 - n = 10 * (7 - n / 10) + (9 - n % 10) := by omega
  have hbyte : (frameBytes id).toList.getD (n / 10) 0#8 = (frameBytes id)[n / 10] := by simp [hy]
  rw [hpos, hbyte, frameBits_getLsbD id ⟨n / 10, hy⟩ (by omega)]
  exact charBits_slotBit _ ⟨n % 10, hk⟩

/-- Settles O8: bit by bit from the layout of a character and of a frame; IVL is the complement, as the envelope is. -/
theorem wireCodesAreTheirSlots : Obligations.WireCodesAreTheirSlots := by
  refine ⟨fun b n hn => ?_, fun id n hn => frameBits_slotBit id hn, fun id n hn => ?_⟩
  · have hfield : (encode (.char b)).bits.getLsbD (9 - n) = (charBits b).getLsbD (9 - n) := by
      have h80 : 9 - n < 80 := by omega
      simp only [encode, fieldAt_getLsbD]
      simp [h80]
    rw [hfield]
    exact charBits_slotBit b ⟨n, hn⟩
  · have hy : n / 10 < 8 := by omega
    have henv : (frameEnv id)[n]? = some (!slotBit ((frameBytes id).toList.getD (n / 10) 0#8) (n % 10)) := by
      simp [frameEnv, hn, slotEnv, envOf]
    have hbit : (encode (.ivl id)).bits.getLsbD (79 - n) = !(frameBits id).getLsbD (79 - n) := by
      have h80 : 79 - n < 80 := by omega
      simp only [encode, BitVec.getLsbD_not, h80, decide_true, Bool.true_and]
    rw [henv, hbit, frameBits_slotBit id hn]

/-- Settles O5: the ten words are literals, which the decoder evaluates. -/
theorem tableWordsDecode : Obligations.TableWordsDecode := by
  unfold Obligations.TableWordsDecode
  decide

end Sys2Proof
end

section
/-! PROOFS. Who writes what (60_exceptions.md R233). Each shared operation is given the list of the elements it writes; a row's
list is made of those of the operations it performs, and every element on it has the row among its writers. -/

namespace Sys2Proof.Machine

section

variable {s t u : State}

/-! ## Elements that an operation may write -/

theorem Element.same_refl (e : Element) (s : State) : e.same s s := by
  cases e <;> simp [Element.same]

theorem Element.same_trans {e : Element} (h : e.same s t) (k : e.same t u) : e.same s u := by
  cases e <;> simp_all [Element.same]

/-- From `s` to `t` no element is written but those listed. -/
def Writes (ws : List Element) (s t : State) : Prop := ∀ e, e ∉ ws → e.same s t

theorem Writes.refl (ws : List Element) (s : State) : Writes ws s s := fun e _ => e.same_refl s

theorem Writes.mono {ws vs : List Element} (h : Writes ws s t) (hsub : ws ⊆ vs) : Writes vs s t :=
  fun e he => h e fun hw => he (hsub hw)

theorem Writes.trans {ws vs : List Element} (h : Writes ws s t) (k : Writes vs t u) : Writes (ws ++ vs) s u := fun e he =>
  Element.same_trans (h e fun hw => he (List.mem_append_left _ hw)) (k e fun hv => he (List.mem_append_right _ hv))

theorem Writes.onlyIf {ws : List Element} {c : Bool} (h : c = true → Writes ws s t) : Writes ws s (onlyIf c t s) := by
  rcases onlyIf_cases c t s with ⟨hc, hop⟩ | ⟨-, hop⟩ <;> rw [hop]
  · exact h hc
  · exact Writes.refl ws s

/-- A row that writes only elements of which it is a writer leaves every other element. -/
theorem Writes.same_of_not_writer {ws : List Element} {i : Instr} {e : Element} (h : Writes ws s t)
    (hws : ws.all (Element.writers i) = true) (he : e.writers i = false) : e.same s t :=
  h e fun hmem => Bool.false_ne_true (he.symm.trans (List.all_eq_true.mp hws e hmem))

/-! ## What each shared operation writes -/

theorem bcStartRx_writes (s : State) : Writes [.rxCounter] s (bcStartRx s) := by
  intro e he; cases e <;> simp_all [Element.same]

theorem bcStartTx_writes (s : State) : Writes [.txCounter] s (bcStartTx s) := by
  intro e he; cases e <;> simp_all [Element.same]

theorem bcCount_writes (s : State) : Writes [.rxCounter, .txCounter] s (bcCount s) := by
  intro e he; cases e <;> simp_all [Element.same]

theorem resetAll_writes (s : State) :
    Writes [.sampler, .synchronizer, .mbReady, .txPosition, .txBusy, .txEnv, .rxRole, .txRole, .rxCounter, .txCounter] s
      (resetAll s) := by
  intro e he; cases e <;> simp_all [Element.same]

theorem initRx_fail_writes (s : State) : Writes [.rxRole] s (initRx false s) := by
  rcases initRx_cases false s with ⟨-, h⟩ | ⟨-, -, hok, -⟩ | ⟨-, -, -, h⟩
  · rw [h]; exact Writes.refl _ s
  · cases hok
  · rw [h]; intro e he; cases e <;> simp_all [Element.same]

theorem initRx_writes (ok : Bool) (s : State) : Writes [.rxRole, .rxCounter] s (initRx ok s) := by
  rcases initRx_cases ok s with ⟨-, h⟩ | ⟨-, -, -, h⟩ | ⟨-, -, -, h⟩ <;> rw [h]
  · exact Writes.refl _ s
  all_goals intro e he; cases e <;> simp_all [Element.same]

theorem initTx_writes (ok : Bool) (s : State) : Writes [.txRole] s (initTx ok s) := by
  rcases initTx_cases ok s with ⟨-, h⟩ | ⟨-, -, -, h⟩ | ⟨-, -, -, h⟩ <;> rw [h]
  · exact Writes.refl _ s
  all_goals intro e he; cases e <;> simp_all [Element.same]

theorem putMailbox_writes (id : Ident) (s : State) : Writes [.mbSlot, .mbReady] s (putMailbox id s) := by
  intro e he; cases e <;> simp_all [Element.same]

theorem emitFrame_writes (id : Ident) (s : State) : Writes [.mbSlot, .mbReady] s (emitFrame id s) := by
  rcases emitFrame_cases id s with ⟨-, h⟩ | ⟨-, h⟩ <;> rw [h]
  · exact Writes.refl _ s
  · exact putMailbox_writes id s

theorem readMailbox_writes (s : State) : Writes [.mbReady, .readResponse] s (readMailbox s) := by
  rcases readMailbox_cases s with ⟨-, h⟩ | ⟨-, h⟩ <;> rw [h] <;> intro e he <;> cases e <;> simp_all [Element.same]

/-- An MB_READ of an empty mailbox only answers (R202). -/
theorem readMailbox_empty_writes (hempty : s.mbReady = false) : Writes [.readResponse] s (readMailbox s) := by
  rcases readMailbox_cases s with ⟨hfull, -⟩ | ⟨-, h⟩
  · exact absurd (hempty.symm.trans hfull) Bool.false_ne_true
  · rw [h]; intro e he; cases e <;> simp_all [Element.same]

/-- Where it emits nothing, BYTE_DONE writes the Synchronizer alone (R172). -/
theorem byteDoneOp_inside_writes (b : Byte) (hinside : ¬(s.syState = .col ∧ s.plIdx.val = 5)) :
    Writes [.synchronizer] s (byteDoneOp b s) := by
  rcases byteDoneOp_cases b s with ⟨-, -, h⟩ | ⟨-, -, h⟩ | ⟨-, -, h⟩ | ⟨-, -, h⟩ | ⟨-, _, h⟩ | ⟨hcol, hlast, -⟩
  case inr.inr.inr.inr.inr => exact absurd ⟨hcol, hlast⟩ hinside
  all_goals rw [h]; intro e he; cases e <;> simp_all [Element.same]

theorem byteDoneOp_writes (b : Byte) (s : State) : Writes [.synchronizer, .mbSlot, .mbReady] s (byteDoneOp b s) := by
  by_cases hlast : s.syState = .col ∧ s.plIdx.val = 5
  · rcases byteDoneOp_cases b s with ⟨hsy, -⟩ | ⟨hsy, -⟩ | ⟨hsy, -⟩ | ⟨hsy, -⟩ | ⟨-, hlt, -⟩ | ⟨-, -, h⟩
    case inr.inr.inr.inr.inr =>
      have hstore : Writes [.synchronizer] s { storePayload b s with syState := .wp1 } := by
        intro e he; cases e <;> simp_all [Element.same]
      rw [h]
      exact hstore.trans (emitFrame_writes _ _)
    case inr.inr.inr.inr.inl => omega
    all_goals exact absurd (hsy.symm.trans hlast.1) (by decide)
  · exact (byteDoneOp_inside_writes b hlast).mono (by simp)

theorem startChar_writes (s : State) : Writes [.sampler] s (startChar s) := by
  intro e he; cases e <;> simp_all [Element.same]

theorem sampleData_writes (level : Bool) (h8 : s.rxIdx.val < 8) : Writes [.sampler] s (sampleData level s h8) := by
  intro e he; cases e <;> simp_all [Element.same, sampleData]

theorem stopChar_writes (s : State) : Writes [.sampler, .synchronizer, .mbSlot, .mbReady] s (stopChar s) := by
  have hidle : Writes [.sampler] s { s with rxBusy := false } := by
    intro e he; cases e <;> simp_all [Element.same]
  exact hidle.trans (byteDoneOp_writes _ _)

theorem rxTickOp_writes (level : Bool) (s : State) :
    Writes [.sampler, .synchronizer, .mbSlot, .mbReady] s (rxTickOp level s) := by
  rcases rxTickOp_cases level s with ⟨-, h⟩ | ⟨-, -, -, h⟩ | ⟨-, -, -, h⟩ | ⟨-, -, h8, h⟩ | ⟨-, -, -, h⟩ <;> rw [h]
  · exact Writes.refl _ s
  · exact Writes.refl _ s
  · exact (startChar_writes s).mono (by simp)
  · exact (sampleData_writes level h8).mono (by simp)
  · exact stopChar_writes s

theorem rxLevels_writes (levels : List Bool) (s : State) :
    Writes [.sampler, .synchronizer, .mbSlot, .mbReady] s (rxLevels levels s) := by
  induction levels generalizing s with
  | nil => exact Writes.refl _ s
  | cons l ls ih => exact ((rxTickOp_writes l s).trans (ih _)).mono (by simp)

theorem rxFrame_writes (id : Ident) (s : State) :
    Writes [.sampler, .synchronizer, .mbSlot, .mbReady] s (rxFrame id s) := by
  rw [rxFrame_eq_rxLevels]
  exact rxLevels_writes _ s

theorem respondSend_writes (r : Bool) (s : State) : Writes [.sendResponse] s (respondSend r s) := by
  intro e he; cases e <;> simp_all [Element.same]

theorem acceptSend_writes (id : Ident) (s : State) :
    Writes [.txFrame, .txPosition, .txBusy, .txCounter, .sendResponse] s (acceptSend id s) := by
  intro e he; cases e <;> simp_all [Element.same]

theorem sendOp_writes (id : Ident) (s : State) :
    Writes [.txFrame, .txPosition, .txBusy, .txCounter, .sendResponse] s (sendOp id s) := by
  rcases sendOp_cases id s with ⟨-, -, h⟩ | ⟨-, h⟩ <;> rw [h]
  · exact acceptSend_writes id s
  · exact (respondSend_writes false s).mono (by simp)

/-- A SEND that the busy-guard rejects only answers (R131). -/
theorem sendOp_busy (id : Ident) (hbusy : s.txBusy = true) : sendOp id s = respondSend false s := by
  rcases sendOp_cases id s with ⟨-, hidle, -⟩ | ⟨-, h⟩
  · exact absurd (hidle.symm.trans hbusy) Bool.false_ne_true
  · exact h

theorem endTx_writes (s : State) : Writes [.txEnv, .txBusy] s (endTx s) := by
  intro e he; cases e <;> simp_all [Element.same]

theorem driveSlot_writes (bit : Bool) (h8 : s.txByte.val < 8) : Writes [.txPosition, .txEnv] s (driveSlot bit s h8) := by
  rcases driveSlot_cases bit s h8 with ⟨_, h⟩ | ⟨-, h⟩ <;> rw [h] <;> intro e he <;> cases e <;> simp_all [Element.same]

theorem txTickOp_writes (s : State) : Writes [.txPosition, .txBusy, .txEnv] s (txTickOp s) := by
  rcases txTickOp_cases s with ⟨-, h⟩ | ⟨-, -, h⟩ | ⟨-, h8, h⟩ <;> rw [h]
  · exact Writes.refl _ s
  · exact (endTx_writes s).mono (by simp)
  · exact (driveSlot_writes _ h8).mono (by simp)

theorem slotSubcase_writes (y : BitVec 4) (slot : Nat) (bit : State → Bool) (s : State) :
    Writes [.txPosition, .txEnv] s (slotSubcase y slot bit s) := by
  unfold slotSubcase
  split
  · exact Writes.onlyIf fun _ => driveSlot_writes _ _
  · exact Writes.refl _ s

/-! ## What each row writes -/

theorem execBcClk_writes (h : execBcClk s = .next t) :
    Writes [.rxCounter, .txCounter, .sampler, .synchronizer, .mbSlot, .mbReady, .txPosition, .txBusy, .txEnv] s t := by
  cases h
  exact ((bcCount_writes s).trans (Writes.onlyIf fun _ => rxTickOp_writes (sampledLevel s) _)).trans
    (Writes.onlyIf (c := txTickDue s) fun _ => txTickOp_writes _)

theorem execRxTickData_writes {idx : BitVec 4} {v : Bool} (h : execRxTickData idx v s = .next t) : Writes [.sampler] s t := by
  unfold execRxTickData at h
  split at h <;> cases h
  · exact Writes.onlyIf fun _ => sampleData_writes v _
  · exact Writes.refl _ s

theorem execIvl_writes {id : Ident} (h : execIvl id s = .next t) :
    Writes [.txFrame, .txPosition, .txBusy, .txCounter, .sendResponse, .txEnv] s t := by
  cases h
  split
  · have hreplay : Writes [.txPosition, .txBusy, .txEnv] (acceptSend id s) (replayIntervals (intervals id) (acceptSend id s)) := by
      rw [replayIntervals_eq _ _ (by simp)]
      intro e he; cases e <;> simp_all [Element.same]
    exact ((acceptSend_writes id s).trans hreplay).mono (by simp)
  · exact (sendOp_writes id s).mono (by simp)

/-- Each row leaves the elements of which it is no writer: by the operation it performs, under the condition that selects it. -/
theorem exec_same {i : Instr} (e : Element) (h : exec i s = .next t) (he : e.writers i = false) : e.same s t := by
  cases i with
  | reset => cases h; exact (resetAll_writes s).same_of_not_writer rfl he
  | nop | rxTickIdleHigh | initRxIgnoredEnabled | initRxIgnoredFailed | initTxIgnoredEnabled | initTxIgnoredFailed
  | frameEmitDrop | bcStop => cases h; exact e.same_refl s
  | bcClk => exact (execBcClk_writes h).same_of_not_writer rfl he
  | bcStartRx => cases h; exact (Writes.onlyIf fun _ => bcStartRx_writes s).same_of_not_writer rfl he
  | bcStartTx => cases h; exact (Writes.onlyIf fun _ => bcStartTx_writes s).same_of_not_writer rfl he
  | initRx ok => cases h; exact (initRx_writes ok s).same_of_not_writer rfl he
  | initRxOk => cases h; exact (Writes.onlyIf fun _ => initRx_writes true s).same_of_not_writer rfl he
  | initRxFail => cases h; exact (Writes.onlyIf fun _ => initRx_fail_writes s).same_of_not_writer rfl he
  | initTx ok => cases h; exact (initTx_writes ok s).same_of_not_writer rfl he
  | initTxOk | initTxFail => cases h; exact (Writes.onlyIf fun _ => initTx_writes _ s).same_of_not_writer rfl he
  | mbRead => cases h; exact (readMailbox_writes s).same_of_not_writer rfl he
  | mbReadFull => cases h; exact (Writes.onlyIf fun _ => readMailbox_writes s).same_of_not_writer rfl he
  | mbReadEmpty =>
    cases h
    exact (Writes.onlyIf fun hc => readMailbox_empty_writes (Bool.not_eq_true' _ ▸ hc)).same_of_not_writer rfl he
  | mbWrite | frameEmitForward => cases h; exact (Writes.onlyIf fun _ => putMailbox_writes _ s).same_of_not_writer rfl he
  | frameEmit => cases h; exact (Writes.onlyIf fun _ => emitFrame_writes _ s).same_of_not_writer rfl he
  | byteDone | byteDoneColLast => cases h; exact (Writes.onlyIf fun _ => byteDoneOp_writes _ s).same_of_not_writer rfl he
  | byteDoneWp1Hit | byteDoneWp1Miss | byteDoneWp2Hit | byteDoneWp2Miss | byteDoneColStore =>
    cases h
    refine (Writes.onlyIf fun hc => byteDoneOp_inside_writes _ ?_).same_of_not_writer rfl he
    rintro ⟨hcol, hlast⟩
    simp [hcol, lastIdx, hlast] at hc
  | rxTick level => cases h; exact (rxTickOp_writes level s).same_of_not_writer rfl he
  | rxTickStart => cases h; exact (Writes.onlyIf fun _ => startChar_writes s).same_of_not_writer rfl he
  | rxTickData idx v => exact (execRxTickData_writes h).same_of_not_writer rfl he
  | rxTickStop level => cases h; exact (Writes.onlyIf fun _ => stopChar_writes s).same_of_not_writer rfl he
  | char b => cases h; exact (rxLevels_writes _ s).same_of_not_writer rfl he
  | frame id =>
    obtain rfl : rxFrame id s = t := Host.Outcome.next.inj h
    exact (rxFrame_writes id s).same_of_not_writer (i := .frame id) rfl he
  | send id => cases h; exact (sendOp_writes id s).same_of_not_writer rfl he
  | sendAccept id => cases h; exact (Writes.onlyIf fun _ => acceptSend_writes id s).same_of_not_writer rfl he
  | sendRejectDisabled | sendRejectBusy =>
    cases h; exact (Writes.onlyIf fun _ => respondSend_writes false s).same_of_not_writer rfl he
  | txTick => cases h; exact (txTickOp_writes s).same_of_not_writer rfl he
  | txTickStart | txTickDataD0 | txTickDataD1 | txTickDataD2 | txTickDataD3 | txTickDataD4 | txTickDataD5 | txTickDataD6
  | txTickDataD7 | txTickStop => cases h; exact (slotSubcase_writes _ _ _ s).same_of_not_writer rfl he
  | txTickEnd => cases h; exact (Writes.onlyIf fun _ => endTx_writes s).same_of_not_writer rfl he
  | id48 id =>
    have hport : Writes [.sendPort] s { s with sendIdPort := id } := by
      intro e he; cases e <;> simp_all [Element.same]
    cases h; exact hport.same_of_not_writer rfl he
  | ivl id => exact (execIvl_writes h).same_of_not_writer rfl he

end

/-- Settles O57: row by row. -/
theorem eachElementHasItsWriters : Obligations.EachElementHasItsWriters := fun e _ _ _ h he => exec_same e h he

/-! ## What follows for the enables and for a transmission -/

/-- A successful or failed INIT sets a flag and clears none (R116, R117, R23). -/
theorem initRx_keeps_flags (ok : Bool) (s : State) :
    (s.rxEn = true → (initRx ok s).rxEn = true) ∧ (s.rxErr = true → (initRx ok s).rxErr = true) := by
  rcases initRx_cases ok s with ⟨-, h⟩ | ⟨-, hok, -, h⟩ | ⟨hen, -, -, h⟩ <;> rw [h]
  · exact ⟨id, id⟩
  · exact ⟨fun _ => rfl, id⟩
  · exact ⟨id, fun _ => rfl⟩

theorem initTx_keeps_flags (ok : Bool) (s : State) :
    (s.txEn = true → (initTx ok s).txEn = true) ∧ (s.txErr = true → (initTx ok s).txErr = true) := by
  rcases initTx_cases ok s with ⟨-, h⟩ | ⟨-, -, -, h⟩ | ⟨-, -, -, h⟩ <;> rw [h]
  · exact ⟨id, id⟩
  · exact ⟨fun _ => rfl, id⟩
  · exact ⟨id, fun _ => rfl⟩

theorem exec_keeps_rxFlags {i : Instr} {s t : State} (hi : i ≠ .reset) (h : exec i s = .next t) :
    (s.rxEn = true → t.rxEn = true) ∧ (s.rxErr = true → t.rxErr = true) := by
  cases hw : Element.rxRole.writers i with
  | false =>
    obtain ⟨hen, herr⟩ := exec_same .rxRole h hw
    exact ⟨hen.trans, herr.trans⟩
  | true =>
    cases i with
    | reset => exact absurd rfl hi
    | initRx ok => cases h; exact initRx_keeps_flags ok s
    | initRxOk | initRxFail =>
      cases h
      exact onlyIf_of_both (P := fun u => (s.rxEn = true → u.rxEn = true) ∧ (s.rxErr = true → u.rxErr = true)) ⟨id, id⟩
        (initRx_keeps_flags _ s)
    | _ => cases hw

theorem exec_keeps_txFlags {i : Instr} {s t : State} (hi : i ≠ .reset) (h : exec i s = .next t) :
    (s.txEn = true → t.txEn = true) ∧ (s.txErr = true → t.txErr = true) := by
  cases hw : Element.txRole.writers i with
  | false =>
    obtain ⟨hen, herr⟩ := exec_same .txRole h hw
    exact ⟨hen.trans, herr.trans⟩
  | true =>
    cases i with
    | reset => exact absurd rfl hi
    | initTx ok => cases h; exact initTx_keeps_flags ok s
    | initTxOk | initTxFail =>
      cases h
      exact onlyIf_of_both (P := fun u => (s.txEn = true → u.txEn = true) ∧ (s.txErr = true → u.txErr = true)) ⟨id, id⟩
        (initTx_keeps_flags _ s)
    | _ => cases hw

/-- Settles O58: apart from RESET only the INITs write the flags, and they set them. -/
theorem onlyResetClearsEnables : Obligations.OnlyResetClearsEnables := by
  intro i s t hi h
  obtain ⟨hrxEn, hrxErr⟩ := exec_keeps_rxFlags hi h
  obtain ⟨htxEn, htxErr⟩ := exec_keeps_txFlags hi h
  exact ⟨hrxEn, htxEn, hrxErr, htxErr⟩

/-- A SEND, in any of its rows, that finds a transmission under way writes nothing but its answer (R137). -/
theorem exec_sends_busy {i : Instr} {s t : State} (hi : sends i = true) (hbusy : s.txBusy = true) (h : exec i s = .next t) :
    Writes [.sendResponse] s t := by
  have hsend (id : Ident) : Writes [.sendResponse] s (sendOp id s) := by
    rw [sendOp_busy id hbusy]
    exact respondSend_writes false s
  have hclosed : ¬(s.txEn && !s.txBusy) = true := by simp [hbusy]
  cases i with
  | send id => cases h; exact hsend id
  | sendAccept id => cases h; exact Writes.onlyIf fun hc => absurd hc hclosed
  | ivl id => cases h; rw [if_neg hclosed]; exact hsend id
  | _ => cases hi

theorem txEnv_writers_of_not_transmits {i : Instr} (hreset : i ≠ .reset) (hs : sends i = false) (htx : transmits i = false) :
    Element.txEnv.writers i = false := by
  simp only [Element.writers, hreset, htx, decide_false, Bool.false_or]
  cases i with
  | ivl _ => cases hs
  | _ => rfl

/-- Rows other than RESET and TX_TICK's own leave a running transmission (R134, R137, R138). -/
theorem exec_keeps_transmission {i : Instr} {s t : State} (hbusy : s.txBusy = true) (htx : transmits i = false)
    (hreset : i ≠ .reset) (h : exec i s = .next t) (e : Element) (he : e ∈ [.txBusy, .txPosition, .txFrame, .txEnv]) :
    e.same s t := by
  simp only [List.mem_cons, List.not_mem_nil, or_false] at he
  cases hs : sends i with
  | true =>
    refine exec_sends_busy hs hbusy h e ?_
    rcases he with rfl | rfl | rfl | rfl <;> decide
  | false =>
    obtain ⟨⟨⟨hdrive, htick⟩, hend⟩, hclk⟩ : ((drivesSlot i = false ∧ i ≠ .txTick) ∧ i ≠ .txTickEnd) ∧ i ≠ .bcClk := by
      simpa [transmits] using htx
    refine exec_same e h ?_
    rcases he with rfl | rfl | rfl | rfl
    · simp [Element.writers, hs, hreset, htick, hend, hclk]
    · simp [Element.writers, hs, hreset, hdrive, htick, hclk]
    · exact hs
    · exact txEnv_writers_of_not_transmits hreset hs htx

/-- Settles O42: of the rows that remain only SEND's own are writers, and they are rejected. -/
theorem transmissionIsExclusive : Obligations.TransmissionIsExclusive := by
  intro s t i hbusy htx hreset h
  have hsame := exec_keeps_transmission hbusy htx hreset h
  obtain ⟨hbyte, hbit⟩ := hsame .txPosition (by decide)
  refine ⟨hsame .txBusy (by decide), hbyte, hbit, hsame .txFrame (by decide), hsame .txEnv (by decide), ?_⟩
  rintro id rfl
  have hop : exec (.send id) s = .next (respondSend false s) := congrArg Host.Outcome.next (sendOp_busy id hbusy)
  rw [← Host.Outcome.next.inj (hop.symm.trans h)]
  rfl

end Sys2Proof.Machine
end

section
/-! PROOFS. The rows one by one. A sub-case row performs its operation where its vector selects it and holds the state elsewhere
(log 5); said once for each row, this gives the result of a row, that an unselected row writes nothing, and that an operation is
the sub-case its vector selects (30_encoding.md R91 to R94). -/

namespace Sys2Proof

theorem bitAt_eq_shiftLeft (v : Bool) (n : Nat) : bitAt v n = (BitVec.ofBool v).setWidth 8 <<< n := by
  cases v
  · simp [bitAt]
  · rfl

/-- An identity is its six bytes (R64). -/
theorem eq_packIdent {id : Ident} {b0 b1 b2 b3 b4 b5 : Byte} (h0 : identByte id 0 = b0) (h1 : identByte id 1 = b1)
    (h2 : identByte id 2 = b2) (h3 : identByte id 3 = b3) (h4 : identByte id 4 = b4) (h5 : identByte id 5 = b5) :
    id = packIdent b0 b1 b2 b3 b4 b5 := by
  rw [← h0, ← h1, ← h2, ← h3, ← h4, ← h5, packIdent_identByte]

end Sys2Proof

namespace Sys2Proof.Machine

section

variable {s : State}

theorem onlyIf_eq_ite {c : Bool} {P : Prop} [Decidable P] (hc : c = true ↔ P) (t s : State) :
    onlyIf c t s = if P then t else s := by
  simp only [onlyIf, hc]

/-! ## The rows of BYTE_DONE (R172, R92) -/

theorem exec_byteDone_eq (s : State) :
    exec .byteDone s = .next (if s.rxBusy = true ∧ s.rxIdx.val = 8 then byteDoneOp s.rxByte s else s) :=
  congrArg Host.Outcome.next (onlyIf_eq_ite (by simp) _ s)

theorem exec_byteDoneWp1Hit (s : State) :
    exec .byteDoneWp1Hit s = .next (if s.syState = .wp1 ∧ s.rxByte = 0x5A#8 then byteDoneOp s.rxByte s else s) :=
  congrArg Host.Outcome.next (onlyIf_eq_ite (by simp [doneByte, Config.preamble1]) _ s)

theorem exec_byteDoneWp1Miss (s : State) :
    exec .byteDoneWp1Miss s = .next (if s.syState = .wp1 ∧ s.rxByte ≠ 0x5A#8 then byteDoneOp s.rxByte s else s) :=
  congrArg Host.Outcome.next (onlyIf_eq_ite (by simp [doneByte, eq1, Config.preamble1]) _ s)

theorem exec_byteDoneWp2Hit (s : State) :
    exec .byteDoneWp2Hit s = .next (if s.syState = .wp2 ∧ s.rxByte = 0x54#8 then byteDoneOp s.rxByte s else s) :=
  congrArg Host.Outcome.next (onlyIf_eq_ite (by simp [doneByte, Config.preamble2]) _ s)

theorem exec_byteDoneWp2Miss (s : State) :
    exec .byteDoneWp2Miss s = .next (if s.syState = .wp2 ∧ s.rxByte ≠ 0x54#8 then byteDoneOp s.rxByte s else s) :=
  congrArg Host.Outcome.next (onlyIf_eq_ite (by simp [doneByte, eq2, Config.preamble2]) _ s)

theorem exec_byteDoneColStore (s : State) :
    exec .byteDoneColStore s = .next (if s.syState = .col ∧ s.plIdx.val < 5 then byteDoneOp s.rxByte s else s) := by
  have hlt : lastIdx s = false ↔ s.plIdx.val < 5 := by
    have hidx := s.plIdx.isLt
    rw [← Bool.not_eq_true, lastIdx_iff]
    omega
  exact congrArg Host.Outcome.next (onlyIf_eq_ite (by simp [hlt]) _ s)

theorem exec_byteDoneColLast (s : State) :
    exec .byteDoneColLast s = .next (if s.syState = .col ∧ s.plIdx.val = 5 then byteDoneOp s.rxByte s else s) :=
  congrArg Host.Outcome.next (onlyIf_eq_ite (by simp) _ s)

/-! ## The rows of the Self-Filter and the mailbox (R191, R201, R202) -/

theorem exec_frameEmit (s : State) :
    exec .frameEmit s = .next (if s.syState = .col ∧ s.plIdx.val = 5 then emitFrame (doneIdent s) s else s) :=
  congrArg Host.Outcome.next (onlyIf_eq_ite (by simp) _ s)

/-- FRAME_EMIT.forward and MB_WRITE are FRAME_EMIT: an identity that is LOCAL_ID is not theirs to write (R191). -/
theorem exec_mbWrite (s : State) : exec .mbWrite s = .next (emitFrame (doneIdent s) s) := by
  rcases emitFrame_cases (doneIdent s) s with ⟨hid, h⟩ | ⟨hid, h⟩
  · have hsame : (!sameIdent (doneIdent s) s.cfg.localId) = false := by rw [(sameIdent_iff _ _).mpr hid]; rfl
    rw [h]
    exact congrArg (fun c => Host.Outcome.next (onlyIf c (putMailbox (doneIdent s) s) s)) hsame
  · have hsame : (!sameIdent (doneIdent s) s.cfg.localId) = true := by rw [(sameIdent_false_iff _ _).mpr hid]; rfl
    rw [h]
    exact congrArg (fun c => Host.Outcome.next (onlyIf c (putMailbox (doneIdent s) s) s)) hsame

theorem exec_frameEmitForward (s : State) : exec .frameEmitForward s = .next (emitFrame (doneIdent s) s) := exec_mbWrite s

theorem exec_mbReadFull (s : State) : exec .mbReadFull s = .next (if s.mbReady = true then readMailbox s else s) := rfl

theorem exec_mbReadEmpty (s : State) : exec .mbReadEmpty s = .next (if s.mbReady = false then readMailbox s else s) :=
  congrArg Host.Outcome.next (onlyIf_eq_ite (by simp) _ s)

/-! ## The rows of RX_TICK (R152, R91). With `rx_en = 0` an RX_TICK does nothing, so the vector alone selects. -/

theorem exec_rxTickStart (s : State) :
    exec .rxTickStart s = .next (if s.rxBusy = false then rxTickOp false s else s) := by
  have hrow : exec .rxTickStart s = .next (onlyIf (rxRuns s && !s.rxBusy) (startChar s) s) := rfl
  rw [hrow]
  cases hen : s.rxEn <;> cases hbusy : s.rxBusy <;> simp [onlyIf, rxTickOp, rxRuns, hen, hbusy]

theorem exec_rxTickData (idx : BitVec 4) (v : Bool) (s : State) :
    exec (.rxTickData idx v) s =
      .next (if s.rxBusy = true ∧ s.rxIdx.val = idx.toNat ∧ idx.toNat < 8 then rxTickOp v s else s) := by
  have hrow : exec (.rxTickData idx v) s = execRxTickData idx v s := rfl
  rw [hrow, execRxTickData]
  by_cases h8 : s.rxIdx.val < 8
  · rw [dif_pos h8]
    by_cases hidx : s.rxIdx.val = idx.toNat
    · have h8' : idx.toNat < 8 := hidx ▸ h8
      cases hen : s.rxEn <;> cases hbusy : s.rxBusy <;> simp [onlyIf, rxTickOp, rxRuns, hen, hbusy, hidx, h8']
    · simp [onlyIf, hidx]
  · have hout : ¬(s.rxBusy = true ∧ s.rxIdx.val = idx.toNat ∧ idx.toNat < 8) := by omega
    rw [dif_neg h8, if_neg hout]

theorem exec_rxTickStop_eq (level : Bool) (s : State) :
    exec (.rxTickStop level) s = .next (if s.rxBusy = true ∧ s.rxIdx.val = 8 then rxTickOp level s else s) := by
  have hrow : exec (.rxTickStop level) s = .next (onlyIf (rxRuns s && s.rxBusy && s.rxIdx.val == 8) (stopChar s) s) := rfl
  rw [hrow]
  by_cases h8 : s.rxIdx.val = 8
  · cases hen : s.rxEn <;> cases hbusy : s.rxBusy <;> simp [onlyIf, rxTickOp, rxRuns, hen, hbusy, h8]
  · simp [onlyIf, h8]

/-! ## The rows of SEND and of the INITs (R131, R116, R117) -/

theorem exec_sendAccept (id : Ident) (s : State) :
    exec (.sendAccept id) s = .next (if s.txEn = true ∧ s.txBusy = false then acceptSend id s else s) :=
  congrArg Host.Outcome.next (onlyIf_eq_ite (by simp) _ s)

theorem exec_sendRejectDisabled (s : State) :
    exec .sendRejectDisabled s = .next (if s.txEn = false then respondSend false s else s) :=
  congrArg Host.Outcome.next (onlyIf_eq_ite (by simp) _ s)

theorem exec_sendRejectBusy (s : State) :
    exec .sendRejectBusy s = .next (if s.txEn = true ∧ s.txBusy = true then respondSend false s else s) :=
  congrArg Host.Outcome.next (onlyIf_eq_ite (by simp) _ s)

theorem exec_bcStartTx (s : State) :
    exec .bcStartTx s = .next (if s.txEn = true ∧ s.txBusy = false then bcStartTx s else s) :=
  congrArg Host.Outcome.next (onlyIf_eq_ite (by simp) _ s)

theorem exec_bcStartRx (s : State) :
    exec .bcStartRx s = .next (if s.rxEn = false ∧ s.rxErr = false then bcStartRx s else s) :=
  congrArg Host.Outcome.next (onlyIf_eq_ite (by simp) _ s)

theorem initRx_ignored (ok : Bool) (h : s.rxEn = true ∨ s.rxErr = true) : initRx ok s = s :=
  if_pos (Bool.or_eq_true _ _ ▸ h)

theorem initTx_ignored (ok : Bool) (h : s.txEn = true ∨ s.txErr = true) : initTx ok s = s :=
  if_pos (Bool.or_eq_true _ _ ▸ h)

/-- INIT_RX.ok and INIT_RX.fail are INIT_RX with their draw: where they are not selected it is ignored. -/
theorem onlyIf_initRx (ok : Bool) (s : State) : onlyIf (!s.rxEn && !s.rxErr) (initRx ok s) s = initRx ok s := by
  cases hen : s.rxEn <;> cases herr : s.rxErr <;> simp [onlyIf, initRx, hen, herr]

theorem exec_initRxOk (s : State) : exec .initRxOk s = .next (initRx true s) :=
  congrArg Host.Outcome.next (onlyIf_initRx true s)

theorem exec_initRxFail (s : State) : exec .initRxFail s = .next (initRx false s) :=
  congrArg Host.Outcome.next (onlyIf_initRx false s)

theorem onlyIf_initTx (ok : Bool) (s : State) : onlyIf (!s.txEn && !s.txErr) (initTx ok s) s = initTx ok s := by
  cases hen : s.txEn <;> cases herr : s.txErr <;> simp [onlyIf, initTx, hen, herr]

theorem exec_initTxOk (s : State) : exec .initTxOk s = .next (initTx true s) :=
  congrArg Host.Outcome.next (onlyIf_initTx true s)

theorem exec_initTxFail (s : State) : exec .initTxFail s = .next (initTx false s) :=
  congrArg Host.Outcome.next (onlyIf_initTx false s)

/-! ## The rows of TX_TICK (R133, R93). With `tx_busy = 0` a TX_TICK does nothing, so the vector alone selects. -/

theorem txTickOp_idle (hidle : s.txBusy = false) : txTickOp s = s := by
  simp [txTickOp, txRuns, hidle]

theorem txTickOp_drive (hbusy : s.txBusy = true) (h8 : s.txByte.val < 8) : txTickOp s = driveSlot (slotHere s h8) s h8 := by
  simp [txTickOp, txRuns, hbusy, h8]

theorem txTickOp_end (hbusy : s.txBusy = true) (h8 : s.txByte.val = 8) :
    txTickOp s = { s with txEnv := false, txBusy := false } := by
  simp [txTickOp, txRuns, hbusy, h8, endTx, bcStop]

/-- The logic bit that a slot's row drives: that of the slot in frame byte `y` (R85). -/
def rowBit (y : BitVec 4) (k : Nat) (s : State) : Bool := slotBit (s.txFrame.toList.getD y.toNat 0#8) k

theorem rowBit_eq_slotHere {y : BitVec 4} {k : Nat} (h8 : s.txByte.val < 8) (hy : s.txByte.val = y.toNat)
    (hk : s.txBit.val = k) : rowBit y k s = slotHere s h8 := by
  have hy8 : y.toNat < 8 := hy ▸ h8
  simp [rowBit, slotHere, ← hy, ← hk, h8]

theorem slotSubcase_eq (y : BitVec 4) (k : Nat) (s : State) :
    slotSubcase y k (rowBit y k) s =
      if s.txByte.val = y.toNat ∧ y.toNat < 8 ∧ s.txBit.val = k then txTickOp s else s := by
  unfold slotSubcase
  by_cases h8 : s.txByte.val < 8
  · rw [dif_pos h8]
    by_cases hsel : s.txByte.val = y.toNat ∧ s.txBit.val = k
    · obtain ⟨hy, hk⟩ := hsel
      rw [if_pos ⟨hy, hy ▸ h8, hk⟩, rowBit_eq_slotHere h8 hy hk]
      cases hbusy : s.txBusy with
      | false => rw [txTickOp_idle hbusy]; simp [onlyIf, txRuns, hbusy]
      | true => rw [txTickOp_drive hbusy h8]; simp [onlyIf, txRuns, hbusy, hy, hk]
    · rw [if_neg fun h => hsel ⟨h.1, h.2.2⟩]
      simp only [not_and] at hsel
      simp only [onlyIf, Bool.and_eq_true, beq_iff_eq]
      exact if_neg fun h => hsel h.1.2 h.2
  · rw [dif_neg h8, if_neg (by omega)]

/-- The row of slot `k` of frame byte `y` is TX_TICK where the position is there. -/
theorem exec_slotRow {y : BitVec 4} {k : Fin 10} {i : Instr} (hi : (slotRows y)[k.val]? = some i) (s : State) :
    exec i s = .next (if s.txByte.val = y.toNat ∧ y.toNat < 8 ∧ s.txBit.val = k.val then txTickOp s else s) := by
  have hrow : exec i s = .next (slotSubcase y k.val (rowBit y k.val) s) := by
    fin_cases k <;> cases hi <;> rfl
  rw [hrow, slotSubcase_eq]

theorem exec_txTickEnd (s : State) :
    exec .txTickEnd s = .next (if s.txByte.val = 8 ∧ s.txBit.val = 0 then txTickOp s else s) := by
  have hrow : exec .txTickEnd s = .next (onlyIf (txRuns s && s.txByte.val == 8 && s.txBit.val == 0) (endTx s) s) := rfl
  rw [hrow]
  by_cases hend : s.txByte.val = 8 ∧ s.txBit.val = 0
  · obtain ⟨h8, h0⟩ := hend
    cases hbusy : s.txBusy <;> simp [onlyIf, txTickOp, txRuns, hbusy, h8, h0]
  · rw [if_neg hend]
    simp only [not_and] at hend
    simp only [onlyIf, Bool.and_eq_true, beq_iff_eq]
    exact congrArg Host.Outcome.next (if_neg fun h => hend h.1.2 h.2)

end

end Sys2Proof.Machine
end

section
/-! PROOFS. The results of the rows, each the whole next state; the rows that write nothing; the output pins. -/

namespace Sys2Proof.Machine

section

variable {s : State}

/-! ## The host's operations -/

theorem acceptSend_eq (id : Ident) (s : State) :
    acceptSend id s =
      { s with txFrame := frameBytes id, txByte := 0, txBit := 0, txBusy := true, txCnt := 0, sendResp := some true } := rfl

theorem sendOp_rejected (id : Ident) (h : s.txEn = false ∨ s.txBusy = true) : sendOp id s = respondSend false s := by
  rcases sendOp_cases id s with ⟨hen, hidle, -⟩ | ⟨-, hop⟩
  · simp [hen, hidle] at h
  · exact hop

/-- SEND answers `tx_en & !tx_busy` (R131, R22). -/
theorem sendOp_sendResp (id : Ident) (s : State) : (sendOp id s).sendResp = some (s.txEn && !s.txBusy) := by
  rcases sendOp_cases id s with ⟨hen, hidle, h⟩ | ⟨hrej, h⟩ <;> rw [h]
  · simp [hen, hidle]
  · rcases hrej with hrej | hrej <;> simp [hrej]

theorem execIvl_rejected (id : Ident) (h : s.txEn = false ∨ s.txBusy = true) :
    exec (.ivl id) s = .next (respondSend false s) := by
  have hclosed : ¬(s.txEn && !s.txBusy) = true := by rcases h with h | h <;> simp [h]
  rw [← sendOp_rejected id h]
  exact congrArg Host.Outcome.next (if_neg hclosed)

theorem initRx_ok (hen : s.rxEn = false) (herr : s.rxErr = false) : initRx true s = { s with rxEn := true, rxCnt := 0 } := by
  simp [initRx, hen, herr, bcStartRx]

theorem initRx_fail (hen : s.rxEn = false) (herr : s.rxErr = false) : initRx false s = { s with rxErr := true } := by
  simp [initRx, hen, herr]

theorem initTx_ok (hen : s.txEn = false) (herr : s.txErr = false) : initTx true s = { s with txEn := true } := by
  simp [initTx, hen, herr]

theorem initTx_fail (hen : s.txEn = false) (herr : s.txErr = false) : initTx false s = { s with txErr := true } := by
  simp [initTx, hen, herr]

theorem readMailbox_full (h : s.mbReady = true) :
    readMailbox s = { s with mbReady := false, readResp := some (some s.mbSlot) } := by
  simp [readMailbox, h, respondRead]

theorem readMailbox_empty (h : s.mbReady = false) : readMailbox s = { s with readResp := some none } := by
  simp [readMailbox, h, respondRead]

end

/-- Settles O14: RESET is its list of writes (R250). -/
theorem resetResult : Obligations.ResetResult := fun _ => rfl

/-- Settles O16. -/
theorem initRxResult : Obligations.InitRxResult := by
  intro s
  refine ⟨fun ok h => congrArg Host.Outcome.next (initRx_ignored ok h), fun hen herr => ?_⟩
  rw [exec_initRxOk, exec_initRxFail, exec_bcStartRx, if_pos ⟨hen, herr⟩, ← initRx_ok hen herr, ← initRx_fail hen herr]
  exact ⟨rfl, rfl, rfl, rfl, rfl⟩

/-- Settles O17. -/
theorem initTxResult : Obligations.InitTxResult := by
  intro s
  refine ⟨fun ok h => congrArg Host.Outcome.next (initTx_ignored ok h), fun hen herr => ?_⟩
  rw [exec_initTxOk, exec_initTxFail, ← initTx_ok hen herr, ← initTx_fail hen herr]
  exact ⟨rfl, rfl, rfl, rfl⟩

/-- Settles O18: both rows are the operation that accepts; the frame is the preamble and the identity (R131). -/
theorem sendAcceptedResult : Obligations.SendAcceptedResult := by
  intro s id i hen hidle hi
  have hstart : exec .bcStartTx s = .next { s with txCnt := 0 } := by
    rw [exec_bcStartTx, if_pos ⟨hen, hidle⟩]
    rfl
  refine ⟨?_, hstart⟩
  obtain rfl | rfl := hi
  · exact execSend_accepted id hen hidle
  · rw [exec_sendAccept, if_pos ⟨hen, hidle⟩]
    rfl

/-- Settles O19: a rejected SEND, in each of its rows, is its answer. -/
theorem sendRejectedResult : Obligations.SendRejectedResult := by
  intro s id
  refine ⟨fun hen => ⟨?_, ?_, execIvl_rejected id (.inl hen)⟩, fun hen hbusy => ⟨?_, ?_, execIvl_rejected id (.inr hbusy)⟩⟩
  · exact congrArg Host.Outcome.next (sendOp_rejected id (.inl hen))
  · rw [exec_sendRejectDisabled, if_pos hen]
    rfl
  · exact congrArg Host.Outcome.next (sendOp_rejected id (.inr hbusy))
  · rw [exec_sendRejectBusy, if_pos ⟨hen, hbusy⟩]
    rfl

/-- Settles O20. -/
theorem mbReadResult : Obligations.MbReadResult := by
  refine fun s => ⟨fun hfull i hi => ?_, fun hempty i hi => ?_⟩
  · rw [← readMailbox_full hfull]
    obtain rfl | rfl := hi
    · rfl
    · rw [exec_mbReadFull, if_pos hfull]
  · rw [← readMailbox_empty hempty]
    obtain rfl | rfl := hi
    · rfl
    · rw [exec_mbReadEmpty, if_pos hempty]

/-- Settles O32. -/
theorem id48DrivesThePort : Obligations.Id48DrivesThePort := fun _ _ => rfl

/-- Settles O60: SEND answers what the pin `send_ok` shows, MB_READ what the mailbox pins show, and `ir_out` is gated. -/
theorem outputPinsAgree : Obligations.OutputPinsAgree := by
  intro s t id
  refine ⟨fun h => ?_, fun h => ?_, fun h => (Bool.and_eq_true _ _ ▸ h).1, fun h => ?_⟩
  · cases h
    exact sendOp_sendResp id s
  · cases h
    rw [readMailbox_readResp, unread]
    cases hready : s.mbReady <;> simp [mbReadyPin, mbDataPin, hready]
  · have henv : s.txEnv = true := h
    simp [irOutPin, henv]

/-! ## The Synchronizer, the Self-Filter and the mailbox -/

section

variable {s : State}

/-- The identity a completed payload is, from its six bytes (R172, R64). -/
theorem eq_payloadIdent {id : Ident} {pl : Vector Byte 6} {b : Byte}
    (h : ∀ k : Fin 6, id.extractLsb' (8 * k.val) 8 = (pl.set 5 b)[k.val]) : id = payloadIdent pl b :=
  eq_packIdent ((h 0).trans (by simp)) ((h 1).trans (by simp)) ((h 2).trans (by simp)) ((h 3).trans (by simp))
    ((h 4).trans (by simp)) ((h 5).trans (by simp))

theorem emitFrame_local {id : Ident} (hid : id = s.cfg.localId) : emitFrame id s = s :=
  if_pos ((sameIdent_iff _ _).mpr hid)

theorem emitFrame_foreign {id : Ident} (hid : id ≠ s.cfg.localId) : emitFrame id s = { s with mbSlot := id, mbReady := true } :=
  if_neg ((sameIdent_iff _ _).not.mpr hid)

theorem byteDoneOp_wp2_miss {b : Byte} (h2 : s.syState = .wp2) (hb : b ≠ Config.preamble2) :
    byteDoneOp b s = { s with syState := .wp1 } := by
  simp [byteDoneOp, h2, hb]

theorem byteDoneOp_col_store (b : Byte) (hcol : s.syState = .col) (k : Fin 5) (hk : s.plIdx.val = k.val) :
    byteDoneOp b s = { s with pl := s.pl.set k.val b, plIdx := k.succ } := by
  have hlt : k.val < 5 := k.isLt
  simp only [byteDoneOp, hcol, storePayload, hk, hlt, dif_pos]
  rfl

theorem byteDoneOp_col_last (b : Byte) (hcol : s.syState = .col) (h5 : s.plIdx.val = 5) :
    byteDoneOp b s = emitFrame (payloadIdent s.pl b) { s with pl := s.pl.set 5 b, syState := .wp1 } := by
  simp only [byteDoneOp, hcol, storePayload, h5]
  rfl

end

/-- Settles O21: the three rows are the Self-Filter's decision on the identity collected (R191, R201). -/
theorem frameEmitResult : Obligations.FrameEmitResult := by
  intro s id hbytes
  obtain rfl : id = doneIdent s := eq_payloadIdent hbytes
  refine ⟨fun hlocal hcol h5 => ?_, fun hforeign => ?_⟩
  · rw [exec_frameEmit, if_pos ⟨hcol, h5⟩, emitFrame_local hlocal]
  · rw [exec_frameEmitForward, exec_mbWrite, exec_frameEmit, ← emitFrame_foreign hforeign]
    exact ⟨fun hcol h5 => by rw [if_pos ⟨hcol, h5⟩], rfl, rfl⟩

/-- BYTE_DONE and the sub-case that is selected have one result (R172). -/
theorem exec_byteDone_or_row {s : State} {i row : Instr} {P : Prop} [Decidable P] (hbusy : s.rxBusy = true)
    (h8 : s.rxIdx.val = 8) (hrow : exec row s = .next (if P then byteDoneOp s.rxByte s else s)) (hP : P)
    (hi : i = .byteDone ∨ i = row) : exec i s = .next (byteDoneOp s.rxByte s) := by
  obtain rfl | rfl := hi
  · exact exec_byteDone hbusy h8
  · rw [hrow, if_pos hP]

/-- Settles O22: the first two rows of R171. -/
theorem byteDonePreambleResult : Obligations.ByteDonePreambleResult := by
  intro s hbusy h8
  refine ⟨fun h1 hb i hi => ?_, fun h1 hb i hi => ?_, fun h2 hb i hi => ?_, fun h2 hb i hi => ?_⟩
  · rw [exec_byteDone_or_row hbusy h8 (exec_byteDoneWp1Hit s) ⟨h1, hb⟩ hi]
    exact congrArg Host.Outcome.next ((congrArg (byteDoneOp · s) hb).trans (byteDoneOp_wp1_hit h1))
  · rw [exec_byteDone_or_row hbusy h8 (exec_byteDoneWp1Miss s) ⟨h1, hb⟩ hi, byteDoneOp_wp1_miss h1 hb]
  · rw [exec_byteDone_or_row hbusy h8 (exec_byteDoneWp2Hit s) ⟨h2, hb⟩ hi]
    exact congrArg Host.Outcome.next ((congrArg (byteDoneOp · s) hb).trans (byteDoneOp_wp2_hit h2))
  · rw [exec_byteDone_or_row hbusy h8 (exec_byteDoneWp2Miss s) ⟨h2, hb⟩ hi, byteDoneOp_wp2_miss h2 hb]

/-- Settles O23: below index 5 a byte is stored; at 5 the payload is stored and its identity goes to the Self-Filter. -/
theorem byteDoneCollectResult : Obligations.ByteDoneCollectResult := by
  intro s hbusy h8 hcol
  refine ⟨fun k i hk hi => ?_, fun id i h5 hi hbytes => ?_⟩
  · rw [← byteDoneOp_col_store s.rxByte hcol k hk]
    exact exec_byteDone_or_row hbusy h8 (exec_byteDoneColStore s) ⟨hcol, hk ▸ k.isLt⟩ hi
  · obtain rfl : id = payloadIdent s.pl s.rxByte := eq_payloadIdent hbytes
    rw [exec_byteDone_or_row hbusy h8 (exec_byteDoneColLast s) ⟨hcol, h5⟩ hi, byteDoneOp_col_last s.rxByte hcol h5]
    exact ⟨fun hlocal => congrArg Host.Outcome.next (emitFrame_local hlocal),
      fun hforeign => congrArg Host.Outcome.next (emitFrame_foreign hforeign)⟩

/-! ## The sampler and the sequencer -/

/-- Settles O24: a high level while Idle does nothing, a low one is RX_TICK.start (R152). -/
theorem rxTickIdleResult : Obligations.RxTickIdleResult := by
  intro s hen hidle
  have hlow : rxTickOp false s = { s with rxBusy := true, rxIdx := 0, rxByte := 0#8 } := rxTickOp_low hen hidle
  have hhigh : rxTickOp true s = s := by simp [rxTickOp, rxRuns, hen, hidle]
  rw [exec_rxTickStart, if_pos hidle, ← hlow]
  exact ⟨congrArg Host.Outcome.next hhigh, rfl, rfl⟩

/-- Settles O25: both rows are the data tick, whose level lands at its bit (R152). -/
theorem rxTickDataResult : Obligations.RxTickDataResult := by
  intro s k level i hen hbusy hk hi
  have h8 : s.rxIdx.val < 8 := hk ▸ k.isLt
  have hdata : rxTickOp level s =
      { s with rxByte := s.rxByte ||| ((BitVec.ofBool level).setWidth 8 <<< k.val), rxIdx := k.succ } := by
    rw [rxTickOp_data level hen hbusy h8]
    simp only [sampleData, bitAt_eq_shiftLeft, hk]
    rfl
  rw [← hdata]
  obtain rfl | rfl := hi
  · rfl
  · have hidx : (BitVec.ofNat 4 k.val).toNat = k.val := by rw [BitVec.toNat_ofNat]; omega
    rw [exec_rxTickData, hidx, if_pos ⟨hbusy, hk, k.isLt⟩]

/-- The slot's envelope is the complement of its logic bit (R83, R85). -/
theorem txTickOp_slot {s : State} (y : Fin 8) (k : Fin 10) (hbusy : s.txBusy = true) (hy : s.txByte.val = y.val)
    (hk : s.txBit.val = k.val) :
    txTickOp s =
      if h : k.val < 9 then
        { s with
          txEnv := if k.val = 0 then true else !(s.txFrame[y.val]).getLsbD (k.val - 1)
          txBit := ⟨k.val + 1, Nat.succ_lt_succ h⟩ }
      else { s with txEnv := false, txBit := 0, txByte := y.succ } := by
  have h8 : s.txByte.val < 8 := hy ▸ y.isLt
  rw [txTickOp_drive hbusy h8]
  by_cases h9 : k.val < 9
  · have henv : envOf (slotHere s h8) = if k.val = 0 then true else !(s.txFrame[y.val]).getLsbD (k.val - 1) := by
      by_cases h0 : k.val = 0 <;> simp [slotHere, slotBit, envOf, hy, hk, h0, Nat.ne_of_lt h9]
    rw [dif_pos h9, ← henv]
    simp only [driveSlot, hk, h9, dif_pos]
  · have hlast : k.val = 9 := by omega
    have henv : envOf (slotHere s h8) = false := by simp [slotHere, slotBit, envOf, hk, hlast]
    rw [dif_neg h9]
    simp only [driveSlot, hk, h9, dif_neg, not_false_eq_true, henv, hy]
    rfl

/-- Settles O27: the row of the slot is TX_TICK, which drives it. -/
theorem txTickDrivesItsSlot : Obligations.TxTickDrivesItsSlot := by
  intro s y k i hbusy hy hk hi
  rw [← txTickOp_slot y k hbusy hy hk]
  obtain rfl | hrow := hi
  · rfl
  · have hn : (BitVec.ofNat 4 y.val).toNat = y.val := by rw [BitVec.toNat_ofNat]; omega
    rw [exec_slotRow hrow, hn, if_pos ⟨hy, y.isLt, hk⟩]

/-- Settles O28. -/
theorem txTickEndResult : Obligations.TxTickEndResult := by
  intro s hbusy h8
  rw [exec_txTickEnd, ← txTickOp_end hbusy h8]
  exact ⟨rfl, fun h0 => by rw [if_pos ⟨h8, h0⟩]⟩

/-! ## The BitClocks -/

theorem nextCount_counting {c : Config} {run : Bool} {cnt : Nat} (h : run = true → cnt + 1 ≠ c.bitDiv) :
    nextCount c run cnt = if run then (cnt + 1) % 2 ^ c.cntW else cnt := by
  cases run with
  | false => rfl
  | true =>
    have hne : cnt ≠ c.bitDivPred := fun heq => h rfl (congrArg (· + 1) heq)
    simp [nextCount, countUp, hne]

theorem nextCount_due {c : Config} {cnt : Nat} (h : cnt + 1 = c.bitDiv) : nextCount c true cnt = 0 := by
  have heq : cnt = c.bitDivPred := Nat.succ.inj h
  simp [nextCount, heq]

theorem rxTickDue_iff (s : State) : rxTickDue s = true ↔ s.rxEn = true ∧ s.rxCnt + 1 = s.cfg.bitDiv := by
  simp [rxTickDue, rxRuns, Config.bitDiv]

theorem txTickDue_iff (s : State) : txTickDue s = true ↔ s.txBusy = true ∧ s.txCnt + 1 = s.cfg.bitDiv := by
  simp [txTickDue, txRuns, Config.bitDiv]

/-- BC_CLK: the counters of both instances, then the ticks that are due (R114, R229). -/
theorem exec_bcClk (s : State) :
    exec .bcClk s = .next
      (let received := if rxTickDue s = true then rxTickOp (s.rxMeta.getLsbD 1) (bcCount s) else bcCount s
       if txTickDue s = true then txTickOp received else received) := rfl

/-- Settles O29: the width of a counter holds its range, so below BIT_DIV the count does not wrap (R10, R105). -/
theorem bcClkCounts : Obligations.BcClkCounts := by
  refine ⟨fun s hrx htx => ?_, fun c n hn => ?_, fun c => ⟨leastWidth_ge .., bitDiv_le_two_pow_cntW c, fun w h1 hw => ?_⟩⟩
  · have hrxDue : ¬ rxTickDue s = true := fun h => hrx ((rxTickDue_iff s).mp h).1 ((rxTickDue_iff s).mp h).2
    have htxDue : ¬ txTickDue s = true := fun h => htx ((txTickDue_iff s).mp h).1 ((txTickDue_iff s).mp h).2
    rw [exec_bcClk, if_neg hrxDue, if_neg htxDue, bcCount, nextCount_counting (run := rxRuns s) hrx,
      nextCount_counting (run := txRuns s) htx]
    rfl
  · exact Nat.mod_eq_of_lt (hn.trans_le (bitDiv_le_two_pow_cntW c))
  · exact leastWidth_least _ _ _ w h1 hw

/-- Settles O30: where a counter is due it goes to 0, and its tick is performed on the counted state, RX before TX. -/
theorem bcClkTicks : Obligations.BcClkTicks := by
  intro s t u
  rw [exec_bcClk]
  refine ⟨fun hen hrx htx h => ?_, fun hbusy htx hrx h => ?_, fun hen hrx hbusy htx h k => ?_⟩
  · have hcount : bcCount s = { s with rxCnt := 0, txCnt := if s.txBusy then (s.txCnt + 1) % 2 ^ s.cfg.cntW else s.txCnt } := by
      simp only [bcCount, rxRuns, hen, nextCount_due hrx, txRuns, nextCount_counting htx]
    have htxDue : ¬ txTickDue s = true := fun h => htx ((txTickDue_iff s).mp h).1 ((txTickDue_iff s).mp h).2
    rw [if_pos ((rxTickDue_iff s).mpr ⟨hen, hrx⟩), if_neg htxDue, hcount]
    exact h
  · have hcount : bcCount s = { s with txCnt := 0, rxCnt := if s.rxEn then (s.rxCnt + 1) % 2 ^ s.cfg.cntW else s.rxCnt } := by
      simp only [bcCount, txRuns, hbusy, nextCount_due htx, rxRuns, nextCount_counting hrx]
    have hrxDue : ¬ rxTickDue s = true := fun h => hrx ((rxTickDue_iff s).mp h).1 ((rxTickDue_iff s).mp h).2
    rw [if_neg hrxDue, if_pos ((txTickDue_iff s).mpr ⟨hbusy, htx⟩), hcount]
    exact h
  · have hcount : bcCount s = { s with rxCnt := 0, txCnt := 0 } := by
      simp only [bcCount, rxRuns, hen, nextCount_due hrx, txRuns, hbusy, nextCount_due htx]
    rw [if_pos ((rxTickDue_iff s).mpr ⟨hen, hrx⟩), if_pos ((txTickDue_iff s).mpr ⟨hbusy, htx⟩), hcount]
    cases h
    exact k

/-- Settles O31: an RX_TICK of a disabled receiver and a TX_TICK of an idle transmitter do nothing, nor do many. -/
theorem roleInertBeforeInit : Obligations.RoleInertBeforeInit := by
  intro s level b id
  refine ⟨fun hdis => ⟨?_, ?_, ?_⟩, fun hidle => congrArg Host.Outcome.next (txTickOp_idle hidle)⟩
  · exact congrArg Host.Outcome.next (rxTickOp_disabled level hdis)
  · exact congrArg Host.Outcome.next (rxLevels_disabled (charSlots b) hdis)
  · exact congrArg Host.Outcome.next ((rxFrame_eq_rxLevels id s).trans (rxLevels_disabled (frameSlots id) hdis))

end Sys2Proof.Machine
end

section
/-! PROOFS. An operation is the sub-case that its select vector names (30_encoding.md R91 to R94), and a row that its vector does
not name writes nothing. Each vector is decoded once, as a table over the few bits it holds. -/

namespace Sys2Proof

/-- RXD, over every value of its signals (R91). -/
theorem decodeRxd_signals : ∀ (busy level : Bool) (idx : Fin 9),
    decodeRxd (BitVec.ofBool busy ++ (BitVec.ofNat 4 idx.val ++ BitVec.ofBool level)) = .ok
      (if busy then (if idx.val < 8 then .rxTickData (BitVec.ofNat 4 idx.val) level else .rxTickStop level)
        else if level then .rxTickIdleHigh else .rxTickStart) := by
  decide

/-- TXD, over every position: a slot's row, TX_TICK.end at (8, 0), none elsewhere (R93, U7). -/
theorem decodeTxd_position : ∀ (y : Fin 9) (k : Fin 10),
    (decodeTxd (BitVec.ofNat 4 y.val ++ BitVec.ofNat 4 k.val)).toOption =
      if y.val < 8 then (slotRows (BitVec.ofNat 4 y.val))[k.val]? else if k.val = 0 then some .txTickEnd else none := by
  decide

/-- HSD of SEND, over every value of its signals (R94). -/
theorem decodeHsdSend_signals (en busy : Bool) (id : Ident) :
    decodeHsdSend (BitVec.ofBool en ++ BitVec.ofBool busy) id = .ok
      (if en then (if busy then .sendRejectBusy else .sendAccept id) else .sendRejectDisabled) := by
  cases en <;> cases busy <;> rfl

theorem decodeHsdInitRx_signals : ∀ en err ok : Bool,
    decodeHsdInitRx (BitVec.ofBool en ++ (BitVec.ofBool err ++ BitVec.ofBool ok)) = .ok
      (if en then .initRxIgnoredEnabled else if err then .initRxIgnoredFailed else if ok then .initRxOk else .initRxFail) := by
  decide

theorem decodeHsdInitTx_signals : ∀ en err ok : Bool,
    decodeHsdInitTx (BitVec.ofBool en ++ (BitVec.ofBool err ++ BitVec.ofBool ok)) = .ok
      (if en then .initTxIgnoredEnabled else if err then .initTxIgnoredFailed else if ok then .initTxOk else .initTxFail) := by
  decide

end Sys2Proof

namespace Sys2Proof.Machine

section

variable {s : State}

/-! ## RX_TICK (R91) -/

theorem decode_rxdVector (s : State) (level : Bool) :
    decode ⟨.rxd, (rxdVector s level).setWidth 80⟩ = .ok
      (if s.rxBusy then (if s.rxIdx.val < 8 then .rxTickData (BitVec.ofNat 4 s.rxIdx.val) level else .rxTickStop level)
        else if level then .rxTickIdleHigh else .rxTickStart) :=
  (congrArg decodeRxd (extractLsb'_setWidth (rxdVector s level) (by decide))).trans
    (decodeRxd_signals s.rxBusy level s.rxIdx)

/-- A high level while Idle does nothing (R152). -/
theorem rxTickOp_high (hidle : s.rxBusy = false) : rxTickOp true s = s := by
  simp [rxTickOp, hidle]

end

/-- Settles O10: the row that RXD names performs RX_TICK with its level. -/
theorem rxTickIsItsSubcase : Obligations.RxTickIsItsSubcase := by
  intro s level
  refine ⟨_, decode_rxdVector s level, ?_⟩
  have hop : exec (.rxTick level) s = .next (rxTickOp level s) := rfl
  rw [hop]
  cases hbusy : s.rxBusy with
  | false =>
    cases level with
    | false => exact ((exec_rxTickStart s).trans (by rw [if_pos hbusy])).symm
    | true => exact congrArg Host.Outcome.next (rxTickOp_high hbusy)
  | true =>
    simp only [if_true]
    split
    next h8 =>
      have hidx : (BitVec.ofNat 4 s.rxIdx.val).toNat = s.rxIdx.val := by rw [BitVec.toNat_ofNat]; omega
      rw [exec_rxTickData, hidx, if_pos ⟨hbusy, rfl, h8⟩]
    next h8 =>
      have hlast : s.rxIdx.val = 8 := by omega
      rw [exec_rxTickStop_eq, if_pos ⟨hbusy, hlast⟩]

/-! ## TX_TICK (R93) -/

theorem decode_txdVector (s : State) :
    (decode ⟨.txd, (txdVector s).setWidth 80⟩).toOption =
      if s.txByte.val < 8 then (slotRows (BitVec.ofNat 4 s.txByte.val))[s.txBit.val]?
      else if s.txBit.val = 0 then some .txTickEnd else none :=
  (congrArg (fun v => (decodeTxd v).toOption) (extractLsb'_setWidth (txdVector s) (by decide))).trans
    (decodeTxd_position s.txByte s.txBit)

/-- Settles O11: the row that TXD names is the one of the position, and performs TX_TICK there. -/
theorem txTickIsItsSubcase : Obligations.TxTickIsItsSubcase := by
  intro s i hi
  have hrow := decode_txdVector s
  rw [hi, Except.toOption] at hrow
  have hop : exec .txTick s = .next (txTickOp s) := rfl
  rw [hop]
  split at hrow
  next h8 =>
    have hy : (BitVec.ofNat 4 s.txByte.val).toNat = s.txByte.val := by rw [BitVec.toNat_ofNat]; omega
    rw [exec_slotRow hrow.symm, hy, if_pos ⟨rfl, h8, rfl⟩]
  next h8 =>
    split at hrow
    next h0 =>
      cases hrow
      rw [exec_txTickEnd, if_pos ⟨by omega, h0⟩]
    next => cases hrow

/-! ## BYTE_DONE (R92) -/

/-- The row that the Synchronizer and the completed byte select (R171, R92). -/
def byteDoneRow (s : State) : Instr :=
  match s.syState with
  | .wp1 => if eq1 s.rxByte then .byteDoneWp1Hit else .byteDoneWp1Miss
  | .wp2 => if eq2 s.rxByte then .byteDoneWp2Hit else .byteDoneWp2Miss
  | .col => if lastIdx s then .byteDoneColLast else .byteDoneColStore

theorem decode_sydVector (s : State) : decode ⟨.syd, (sydVector s s.rxByte).setWidth 80⟩ = .ok (byteDoneRow s) := by
  have hvector : decode ⟨.syd, (sydVector s s.rxByte).setWidth 80⟩ = decodeSyd (sydVector s s.rxByte) :=
    congrArg decodeSyd (extractLsb'_setWidth (sydVector s s.rxByte) (by decide))
  rw [hvector, sydVector, byteDoneRow]
  cases s.syState <;> cases eq1 s.rxByte <;> cases eq2 s.rxByte <;> cases lastIdx s <;> rfl

/-- The selected row is BYTE_DONE (R172). -/
theorem exec_byteDoneRow (s : State) : exec (byteDoneRow s) s = .next (byteDoneOp s.rxByte s) := by
  unfold byteDoneRow
  split
  next h1 =>
    split
    next hb => rw [exec_byteDoneWp1Hit, if_pos ⟨h1, (eq1_iff _).mp hb⟩]
    next hb => rw [exec_byteDoneWp1Miss, if_pos ⟨h1, (eq1_iff _).not.mp hb⟩]
  next h2 =>
    split
    next hb => rw [exec_byteDoneWp2Hit, if_pos ⟨h2, (eq2_iff _).mp hb⟩]
    next hb => rw [exec_byteDoneWp2Miss, if_pos ⟨h2, (eq2_iff _).not.mp hb⟩]
  next hcol =>
    split
    next h5 => rw [exec_byteDoneColLast, if_pos ⟨hcol, (lastIdx_iff s).mp h5⟩]
    next h5 =>
      have hlt : s.plIdx.val < 5 := by
        have := (lastIdx_iff s).not.mp h5
        omega
      rw [exec_byteDoneColStore, if_pos ⟨hcol, hlt⟩]

/-- Settles O12. -/
theorem byteDoneIsItsSubcase : Obligations.ByteDoneIsItsSubcase := fun s hbusy h8 =>
  ⟨byteDoneRow s, decode_sydVector s, (exec_byteDone hbusy h8).trans (exec_byteDoneRow s).symm⟩

/-! ## The host's operations and FRAME_EMIT (R94) -/

theorem send_isItsSubcase (s : State) (id : Ident) :
    ∃ i, decodeHsdSend (hsdSendVector s) id = .ok i ∧ exec (.send id) s = exec i s := by
  refine ⟨_, decodeHsdSend_signals s.txEn s.txBusy id, ?_⟩
  have hop : exec (.send id) s = .next (sendOp id s) := rfl
  rw [hop]
  cases hen : s.txEn with
  | false => exact congrArg Host.Outcome.next (sendOp_rejected id (.inl hen)) |>.trans (by
      rw [if_neg Bool.false_ne_true, exec_sendRejectDisabled, if_pos hen])
  | true =>
    cases hbusy : s.txBusy with
    | false =>
      simp only [if_true, Bool.false_eq_true, if_false]
      rw [exec_sendAccept, if_pos ⟨hen, hbusy⟩]
      exact execSend_accepted id hen hbusy
    | true =>
      simp only [if_true]
      rw [exec_sendRejectBusy, if_pos ⟨hen, hbusy⟩, sendOp_rejected id (.inr hbusy)]

theorem mbRead_isItsSubcase (s : State) :
    ∃ i, decodeHsdMbRead (hsdMbReadVector s) = .ok i ∧ exec .mbRead s = exec i s := by
  have hop : exec .mbRead s = .next (readMailbox s) := rfl
  rw [hop]
  cases hready : s.mbReady with
  | false => exact ⟨.mbReadEmpty, by rw [hsdMbReadVector, hready]; rfl, by rw [exec_mbReadEmpty, if_pos hready]⟩
  | true => exact ⟨.mbReadFull, by rw [hsdMbReadVector, hready]; rfl, by rw [exec_mbReadFull, if_pos hready]⟩

theorem initRx_isItsSubcase (s : State) (ok : Bool) :
    ∃ i, decodeHsdInitRx (hsdInitRxVector s ok) = .ok i ∧ exec (.initRx ok) s = exec i s := by
  refine ⟨_, decodeHsdInitRx_signals s.rxEn s.rxErr ok, ?_⟩
  split
  next hen => exact congrArg Host.Outcome.next (initRx_ignored ok (.inl hen))
  next =>
    split
    next herr => exact congrArg Host.Outcome.next (initRx_ignored ok (.inr herr))
    next =>
      cases ok
      · exact (exec_initRxFail s).symm
      · exact (exec_initRxOk s).symm

theorem initTx_isItsSubcase (s : State) (ok : Bool) :
    ∃ i, decodeHsdInitTx (hsdInitTxVector s ok) = .ok i ∧ exec (.initTx ok) s = exec i s := by
  refine ⟨_, decodeHsdInitTx_signals s.txEn s.txErr ok, ?_⟩
  split
  next hen => exact congrArg Host.Outcome.next (initTx_ignored ok (.inl hen))
  next =>
    split
    next herr => exact congrArg Host.Outcome.next (initTx_ignored ok (.inr herr))
    next =>
      cases ok
      · exact (exec_initTxFail s).symm
      · exact (exec_initTxOk s).symm

theorem frameEmit_isItsSubcase {s : State} (hcol : s.syState = .col) (h5 : s.plIdx.val = 5) :
    ∃ i, decodeHsdEmit (hsdEmitVector s (doneIdent s)) = .ok i ∧ exec .frameEmit s = exec i s := by
  rw [exec_frameEmit, if_pos ⟨hcol, h5⟩]
  cases hsame : sameIdent (doneIdent s) s.cfg.localId with
  | false => exact ⟨.frameEmitForward, by rw [hsdEmitVector, hsame]; rfl, (exec_frameEmitForward s).symm⟩
  | true =>
    exact ⟨.frameEmitDrop, by rw [hsdEmitVector, hsame]; rfl,
      congrArg Host.Outcome.next (emitFrame_local ((sameIdent_iff _ _).mp hsame))⟩

/-- Settles O13. -/
theorem hostOperationsAreTheirSubcases : Obligations.HostOperationsAreTheirSubcases := fun s =>
  ⟨send_isItsSubcase s, mbRead_isItsSubcase s, initRx_isItsSubcase s, initTx_isItsSubcase s,
    fun hcol h5 => frameEmit_isItsSubcase hcol h5⟩

/-! ## Rows that write nothing (R97; log 5) -/

theorem exec_unselected {s u : State} {i : Instr} {P : Prop} [Decidable P] (hrow : exec i s = .next (if P then u else s))
    (h : P → u = s) : exec i s = .next s := by
  rw [hrow]
  split
  next hP => rw [h hP]
  next => rfl

theorem exec_not_selected {s u : State} {i : Instr} {P : Prop} [Decidable P] (hrow : exec i s = .next (if P then u else s))
    (h : ¬P) : exec i s = .next s :=
  exec_unselected hrow fun hP => absurd hP h

/-- Settles O15: a row that is not selected holds the state, by the condition in its equation; a tick of a role that does not run
does nothing, nor does an INIT that is ignored or an emission of LOCAL_ID. -/
theorem rowsThatWriteNothing : Obligations.RowsThatWriteNothing := by
  refine ⟨fun s i hi => ?_, fun s idx level => ⟨fun h => ?_, fun h => ?_, fun h => ?_⟩,
    fun s => ⟨fun h => ?_, fun h => ?_, fun h => ?_, fun h => ?_, fun h => ?_, fun h => ?_⟩,
    fun s y k i hi h => ?_,
    fun s id => ⟨fun h => ?_, fun h => ⟨?_, ?_⟩, fun h => ?_, fun h => ?_, fun h => ?_, fun h => ?_, fun h => ⟨?_, ?_, ?_⟩,
      fun h => ⟨?_, ?_⟩⟩,
    fun s => ⟨fun h => ?_, fun h => ?_, fun h => ?_⟩⟩
  · simp only [List.mem_cons, List.not_mem_nil, or_false] at hi
    rcases hi with rfl | rfl | rfl | rfl | rfl | rfl | rfl | rfl <;> rfl
  · exact exec_unselected (exec_rxTickStart s) fun hidle =>
      rxTickOp_disabled false (Bool.eq_false_iff.mpr fun hen => h ⟨hen, hidle⟩)
  · exact exec_unselected (exec_rxTickData idx level s) fun hsel =>
      rxTickOp_disabled level (Bool.eq_false_iff.mpr fun hen => h ⟨hen, hsel⟩)
  · exact exec_unselected (exec_rxTickStop_eq level s) fun hsel =>
      rxTickOp_disabled level (Bool.eq_false_iff.mpr fun hen => h ⟨hen, hsel⟩)
  · exact exec_not_selected (exec_byteDoneWp1Hit s) h
  · exact exec_not_selected (exec_byteDoneWp1Miss s) h
  · exact exec_not_selected (exec_byteDoneWp2Hit s) h
  · exact exec_not_selected (exec_byteDoneWp2Miss s) h
  · exact exec_not_selected (exec_byteDoneColStore s) h
  · exact exec_not_selected (exec_byteDoneColLast s) h
  · exact exec_unselected (exec_slotRow hi s) fun hsel =>
      txTickOp_idle (Bool.eq_false_iff.mpr fun hbusy => h ⟨hbusy, hsel⟩)
  · exact exec_unselected (exec_txTickEnd s) fun hsel =>
      txTickOp_idle (Bool.eq_false_iff.mpr fun hbusy => h ⟨hbusy, hsel⟩)
  · exact exec_not_selected (exec_sendAccept id s) h
  · exact exec_not_selected (exec_bcStartTx s) h
  · exact exec_not_selected (exec_sendRejectDisabled s) (by simp [h])
  · exact exec_not_selected (exec_sendRejectBusy s) h
  · exact exec_not_selected (exec_mbReadFull s) (by simp [h])
  · exact exec_not_selected (exec_mbReadEmpty s) (by simp [h])
  · rw [exec_initRxOk, initRx_ignored true h]
  · rw [exec_initRxFail, initRx_ignored false h]
  · exact exec_not_selected (exec_bcStartRx s) (by rcases h with h | h <;> simp [h])
  · rw [exec_initTxOk, initTx_ignored true h]
  · rw [exec_initTxFail, initTx_ignored false h]
  · exact exec_not_selected (exec_byteDone_eq s) h
  · exact exec_not_selected (exec_frameEmit s) h
  · have hlocal : emitFrame (doneIdent s) s = s := emitFrame_local (eq_payloadIdent h).symm
    rw [exec_frameEmitForward, exec_mbWrite, hlocal]
    exact ⟨rfl, rfl⟩

end Sys2Proof.Machine
end

section
/-! PROOFS. The step. Every row answers (60_exceptions.md R226), so a list of operations does; a timeless step and a `clk` edge
perform one and the same sequence of operations (R229), on different states and with ticks from different sources. -/

namespace Sys2Proof.Machine

section

variable {s t : State}

/-! ## Every row answers a next state (R226) -/

theorem exec_total (i : Instr) (s : State) : ∃ t, exec i s = .next t := by
  cases i with
  | rxTickData idx v => exact ⟨_, exec_rxTickData idx v s⟩
  | _ => exact ⟨_, rfl⟩

theorem runAll_total (is : List Instr) (s : State) : ∃ t, runAll is s = .next t := by
  induction is generalizing s with
  | nil => exact ⟨s, rfl⟩
  | cons i is ih =>
    obtain ⟨u, hu⟩ := exec_total i s
    rw [runAll_cons is hu]
    exact ih u

/-! ## The operations of an edge and of a timeless step (R229) -/

/-- The host's requests, performed in R229's order. -/
def hostStage (bits : BitVec 80) (id : Ident) (s : State) : State :=
  let s1 := onlyIf (evMbRd bits) (readMailbox s) s
  let s2 := onlyIf (evSendReq bits) (sendOp id s1) s1
  let s3 := onlyIf (evInitRx bits) (initRx (pinInitRxOk bits) s2) s2
  onlyIf (evInitTx bits) (initTx (pinInitTxOk bits) s3) s3

/-- The ticks, RX before TX. -/
def tickStage (rx level tx : Bool) (s : State) : State :=
  let s1 := onlyIf rx (rxTickOp level s) s
  onlyIf tx (txTickOp s1) s1

theorem clkEdge_stages {bits : BitVec 80} (h : evRst bits = false) (s : State) :
    clkEdge bits s = .next (shiftFree (pinRxIn bits)
      (tickStage (rxTickDue s) (sampledLevel s) (txTickDue s) (hostStage bits s.sendIdPort (bcCount s)))) :=
  clkEdge_eq bits s h

/-- NOP stands where no operation is left, so it may be left out. -/
theorem runAll_evOps_of_not_reset {bits : BitVec 80} (h : evRst bits = false) (s u : State) :
    runAll (evOps bits s) u = runAll (hostOps bits (pinSendId bits) ++ (pick (evRxTick bits && rxRuns s) (.rxTick (pinRxIn bits)) ++
      pick (evTxTick bits && txRuns s) .txTick)) u := by
  rw [evOps, if_neg (by simp [h]), ← List.append_assoc]
  split
  next hnil => rw [hnil]; rfl
  next i is hcons => rw [hcons]

theorem runAll_evOps_stages {bits : BitVec 80} (h : evRst bits = false) (s u : State) :
    runAll (evOps bits s) u = .next
      (tickStage (evRxTick bits && rxRuns s) (pinRxIn bits) (evTxTick bits && txRuns s) (hostStage bits (pinSendId bits) u)) := by
  rw [runAll_evOps_of_not_reset h, runAll_hostOps, runAll_ticks]
  rfl

/-! ## The step, by the oldest entry of the trace -/

theorem step_eq_runCode {c : Code} {rest : List Code} (hl : launchable s = true) (ht : s.trace = c :: rest) :
    step s = runCode c (fetched rest s) := by
  simp only [step, nextStep, hl, if_true, ht]

theorem step_ev {bits : BitVec 80} {rest : List Code} (hl : launchable s = true) (ht : s.trace = ⟨.ev, bits⟩ :: rest) :
    step s = runAll (evOps bits s) (fetched rest s) :=
  step_eq_runCode hl ht

theorem step_clk {bits : BitVec 80} {rest : List Code} (hl : launchable s = true) (ht : s.trace = ⟨.clk, bits⟩ :: rest) :
    step s = clkEdge bits (fetched rest s) :=
  step_eq_runCode hl ht

theorem runCode_internal {c : Code} (hc : c.fmt.internal = true) (s : State) : runCode c s = .refused .internalOperation := by
  obtain ⟨fmt, bits⟩ := c
  cases fmt with
  | syd | hsdEmit | callBcStartRx | callBcStartTx | callBcStop | callByteDone | callFrameEmit | callMbWrite => rfl
  | ev | clk | rxd | txd | hsdSend | hsdMbRead | hsdInitRx | hsdInitTx | char | frame | id48 | ivl => cases hc

theorem runCode_decoded {c : Code} (hint : c.fmt.internal = false) (hev : c.fmt ≠ .ev) (hclk : c.fmt ≠ .clk) (s : State) :
    runCode c s = runDecoded c s := by
  unfold runCode
  split
  next h => exact absurd h hev
  next h => exact absurd h hclk
  next => rw [hint]; rfl

theorem runDecoded_ok {c : Code} {i : Instr} (hi : decode c = .ok i) (s : State) : runDecoded c s = exec i s := by
  simp only [runDecoded, hi]

theorem runDecoded_error {c : Code} {why : Reject} (hi : decode c = .error why) (s : State) :
    runDecoded c s = .refused (.undecodable why) := by
  simp only [runDecoded, hi]

theorem launchable_of_step (h : step s = .next t) : launchable s = true := by
  simp only [step, nextStep] at h
  split at h
  next hl => exact hl
  next => cases h

/-! ## An EV vector that names one row performs it (R90) -/

theorem evOf_getLsbD (bits : BitVec 80) {k : Nat} (hk : k < 7) : (evOf bits).getLsbD k = bits.getLsbD k := by
  rw [evOf, BitVec.getLsbD_extractLsb', Nat.zero_add, decide_eq_true hk, Bool.true_and]

theorem evRst_eq (bits : BitVec 80) : evRst bits = (evOf bits).getLsbD 6 := (evOf_getLsbD bits (by decide)).symm
theorem evMbRd_eq (bits : BitVec 80) : evMbRd bits = (evOf bits).getLsbD 5 := (evOf_getLsbD bits (by decide)).symm
theorem evSendReq_eq (bits : BitVec 80) : evSendReq bits = (evOf bits).getLsbD 4 := (evOf_getLsbD bits (by decide)).symm
theorem evInitRx_eq (bits : BitVec 80) : evInitRx bits = (evOf bits).getLsbD 3 := (evOf_getLsbD bits (by decide)).symm
theorem evInitTx_eq (bits : BitVec 80) : evInitTx bits = (evOf bits).getLsbD 2 := (evOf_getLsbD bits (by decide)).symm
theorem evRxTick_eq (bits : BitVec 80) : evRxTick bits = (evOf bits).getLsbD 1 := (evOf_getLsbD bits (by decide)).symm
theorem evTxTick_eq (bits : BitVec 80) : evTxTick bits = (evOf bits).getLsbD 0 := (evOf_getLsbD bits (by decide)).symm

/-- The operations an EV vector asks for, in R229's order, where it is not RESET. -/
def askedOps (bits : BitVec 80) (s : State) : List Instr :=
  hostOps bits (pinSendId bits) ++ (pick (evRxTick bits && rxRuns s) (.rxTick (pinRxIn bits)) ++
    pick (evTxTick bits && txRuns s) .txTick)

/-- The requests of an EV vector by its seven bits. -/
theorem askedOps_eq (bits : BitVec 80) (s : State) :
    askedOps bits s = pick ((evOf bits).getLsbD 5) .mbRead ++ pick ((evOf bits).getLsbD 4) (.send (pinSendId bits)) ++
      pick ((evOf bits).getLsbD 3) (.initRx (pinInitRxOk bits)) ++ pick ((evOf bits).getLsbD 2) (.initTx (pinInitTxOk bits)) ++
      (pick ((evOf bits).getLsbD 1 && rxRuns s) (.rxTick (pinRxIn bits)) ++ pick ((evOf bits).getLsbD 0 && txRuns s) .txTick) := by
  rw [askedOps, hostOps, evMbRd_eq, evSendReq_eq, evInitRx_eq, evInitTx_eq, evRxTick_eq, evTxTick_eq]

theorem runAll_singleton (i : Instr) (s : State) : runAll [i] s = exec i s := by
  obtain ⟨t, ht⟩ := exec_total i s
  rw [runAll_cons [] ht, ht, runAll_nil]

/-- A tick that is left out because its clock does not run would do nothing (R119). -/
theorem runAll_pick_rxTick (level : Bool) (s : State) : runAll (pick (rxRuns s) (.rxTick level)) s = exec (.rxTick level) s := by
  cases hen : rxRuns s with
  | true => exact runAll_singleton _ s
  | false => exact (congrArg Host.Outcome.next (rxTickOp_disabled level hen)).symm

theorem runAll_pick_txTick (s : State) : runAll (pick (txRuns s) .txTick) s = exec .txTick s := by
  cases hbusy : txRuns s with
  | true => exact runAll_singleton _ s
  | false => exact (congrArg Host.Outcome.next (txTickOp_idle hbusy)).symm

theorem runAll_evOps_decoded {bits : BitVec 80} {i : Instr} (hi : decodeEv bits = .ok i) :
    runAll (evOps bits s) s = exec i s := by
  cases hr : evRst bits with
  | true =>
    rw [decodeEv, if_pos hr] at hi
    cases hi
    rw [evOps, if_pos hr, runAll_singleton]
  | false =>
    rw [runAll_evOps_of_not_reset hr]
    change runAll (askedOps bits s) s = exec i s
    rw [askedOps_eq]
    unfold decodeEv at hi
    simp only [hr, Bool.false_eq_true, if_false] at hi
    split_ifs at hi with h0 h20 h10 h08 h04 h02 h01 <;> cases hi
    · rw [h0]; rfl
    · rw [h20]; exact runAll_singleton _ s
    · rw [h10]; exact runAll_singleton _ s
    · rw [h08]; exact runAll_singleton _ s
    · rw [h04]; exact runAll_singleton _ s
    · rw [h02]; exact (congrArg (runAll · s) (List.append_nil _)).trans (runAll_pick_rxTick _ s)
    · rw [h01]; exact runAll_pick_txTick s

end

/-- Settles O1: an EV vector that names one row performs the list of that row; the other formats decode and perform. -/
theorem stepRunsTheDecodedRow : Obligations.StepRunsTheDecodedRow := by
  intro s c rest i hl ht hclk hint hi _
  rw [step_eq_runCode hl ht]
  by_cases hev : c.fmt = .ev
  · obtain ⟨fmt, bits⟩ := c
    obtain rfl : fmt = .ev := hev
    exact runAll_evOps_decoded hi
  · rw [runCode_decoded hint hev hclk, runDecoded_ok hi]

theorem tableCode_not_clk (nbits w : Nat) : (tableCode nbits w).fmt ≠ .clk := by
  simp only [tableCode]
  split
  case h_7 => split <;> nofun
  case h_9 => split <;> nofun
  all_goals nofun

/-- Settles O3: a table word is no clock edge, and it is the oldest entry of the trace after it is placed. -/
theorem placedTableWordRuns : Obligations.PlacedTableWordRuns := by
  intro s nbits w i hl hi hint
  have hdecode : decode (tableCode nbits w) = .ok i := by
    unfold decodeTableWord at hi
    split at hi
    next j hj => rw [hj, Option.some.inj hi]
    next => cases hi
  have hplaced : launchable (s.withFetchWord nbits w) = true := hl
  exact stepRunsTheDecodedRow _ _ _ i hplaced rfl (tableCode_not_clk nbits w) hint hdecode
    (decodedRowsAreWellFormed _ i hdecode)

/-- A step that performs a list of operations, or an edge, answers (R226). -/
theorem clkEdge_total (bits : BitVec 80) (s : State) : ∃ t, clkEdge bits s = .next t := by
  cases hr : evRst bits with
  | true => exact ⟨_, clkEdge_rst bits s hr⟩
  | false => exact ⟨_, clkEdge_stages hr s⟩

theorem launchable_iff (s : State) :
    launchable s = true ↔ (s.txByte.val = 8 → s.txBit.val = 0) ∧ (s.txBusy = false → s.txEnv = false) ∧
      s.rxCnt < s.cfg.bitDiv ∧ s.txCnt < s.cfg.bitDiv := by
  have hend : (s.txByte.val != 8 || s.txBit.val == 0) = true ↔ (s.txByte.val = 8 → s.txBit.val = 0) := by
    simp [or_iff_not_imp_left]
  have hidle : (s.txBusy || !s.txEnv) = true ↔ (s.txBusy = false → s.txEnv = false) := by
    cases s.txBusy <;> simp
  rw [launchable, Bool.and_eq_true, Bool.and_eq_true, hend, hidle, countsFit_iff, and_assoc]

/-- Settles O4. -/
theorem stepStopsOnlyByName : Obligations.StepStopsOnlyByName := by
  refine ⟨fun s hl => ?_, launchable_iff, fun s hl ht => ?_, fun s c rest hl ht hint => ?_,
    fun s c rest why hl ht hint hev hclk hwhy => ?_, fun s c rest hl ht hfmt => ?_⟩
  · simp only [step, nextStep, hl]
    rfl
  · simp only [step, nextStep, hl, if_true, ht, fetched]
  · rw [step_eq_runCode hl ht, runCode_internal hint]
  · rw [step_eq_runCode hl ht, runCode_decoded hint hev hclk, runDecoded_error hwhy]
  · obtain ⟨fmt, bits⟩ := c
    obtain rfl | rfl : fmt = .ev ∨ fmt = .clk := hfmt
    · rw [step_ev hl ht]
      exact runAll_total _ _
    · rw [step_clk hl ht]
      exact clkEdge_total _ _

/-- Settles O53: the state after RESET is the reset of any state with its fields. -/
theorem invAtReset : Obligations.InvAtReset := resetAll_inv State.reset

/-- Settles O54. -/
theorem invIsKeptByEveryStep : Obligations.InvIsKeptByEveryStep := fun _ _ hs h => step_keeps_inv hs h

/-- Settles O56: a row answers always; a step does unless its entry is internal or names no row. -/
theorem everyRowIsTotal : Obligations.EveryRowIsTotal := by
  refine ⟨exec_total, fun s hs => ?_⟩
  obtain ⟨hstop, -, hempty, hinternal, hundecodable, hanswers⟩ := stepStopsOnlyByName
  have hl := hs.launchable
  cases ht : s.trace with
  | nil => exact .inl ⟨_, hempty s hl ht⟩
  | cons c rest =>
    by_cases hfmt : c.fmt = .ev ∨ c.fmt = .clk
    · exact .inl (hanswers s c rest hl ht hfmt)
    · obtain ⟨hev, hclk⟩ := not_or.mp hfmt
      cases hint : c.fmt.internal with
      | true => exact .inr (.inl (hinternal s c rest hl ht hint))
      | false =>
        cases hd : decode c with
        | error why => exact .inr (.inr ⟨why, hundecodable s c rest why hl ht hint hev hclk hd⟩)
        | ok i =>
          rw [stepRunsTheDecodedRow s c rest i hl ht hclk hint hd (decodedRowsAreWellFormed c i hd)]
          exact .inl (exec_total i _)

/-! ## The elements that no row writes (R11, R25, R36) -/

theorem exec_fixed {i : Instr} {s t : State} (h : exec i s = .next t) : Element.same s t .fixed := exec_same .fixed h rfl

theorem runAll_fixed {is : List Instr} {s t : State} (h : runAll is s = .next t) : Element.same s t .fixed := by
  induction is generalizing s with
  | nil => cases h; exact Element.fixed.same_refl _
  | cons i is ih =>
    obtain ⟨u, hu⟩ := exec_total i s
    rw [runAll_cons is hu] at h
    exact Element.same_trans (exec_fixed hu) (ih h)

/-- At an edge only the free registers move among them. -/
theorem clkEdge_shiftFree (bits : BitVec 80) (s : State) :
    ∃ u, Element.same s u .fixed ∧ clkEdge bits s = .next (shiftFree (pinRxIn bits) u) := by
  cases hr : evRst bits with
  | true => exact ⟨resetAll s, ⟨rfl, rfl, rfl, rfl⟩, clkEdge_rst bits s hr⟩
  | false =>
    obtain ⟨u, hu⟩ := runAll_total (edgeOps bits s) (bcCount s)
    have hcount : Element.same s (bcCount s) .fixed := ⟨rfl, rfl, rfl, rfl⟩
    exact ⟨u, Element.same_trans hcount (runAll_fixed hu), by simp only [clkEdge, hr, Bool.false_eq_true, if_false, hu, andThen]⟩

theorem runCode_cfg {c : Code} {s t : State} (h : runCode c s = .next t) : t.cfg = s.cfg := by
  unfold runCode at h
  split at h
  · obtain ⟨-, -, hcfg, -⟩ := runAll_fixed h
    exact hcfg
  · obtain ⟨hcfg, -, -⟩ := clkEdge_keeps h
    exact hcfg
  · split at h
    · cases h
    · unfold runDecoded at h
      split at h
      · obtain ⟨-, -, hcfg, -⟩ := exec_fixed h
        exact hcfg
      · cases h

/-- Settles O59: the parameters are an element that no row writes. -/
theorem parametersNeverChange : Obligations.ParametersNeverChange := by
  intro s t h
  have hl := launchable_of_step h
  cases ht : s.trace with
  | nil =>
    simp only [step, nextStep, hl, if_true, ht] at h
    cases h
    rfl
  | cons c rest =>
    rw [step_eq_runCode hl ht] at h
    have hcfg := runCode_cfg h
    exact hcfg

end Sys2Proof.Machine
end

section
/-! PROOFS. A timeless step of several operations and a `clk` edge (60_exceptions.md R229, R90). Both are the host's requests and
then the ticks. The requests write neither the sampler nor the Synchronizer nor the slot, and a tick is performed only where its
clock ran before, so each coincidence is settled by what the stages before leave unwritten. -/

namespace Sys2Proof.Machine

section

variable {s t : State}

/-! ## EV vectors against the table (R90, R101) -/

theorem mem_pick {b : Bool} {i j : Instr} : i ∈ pick b j ↔ b = true ∧ i = j := by
  cases b <;> simp [pick]

/-- The table's mask and match of an EV row: `rst` is 0 and the row's own bit is 1. -/
theorem ev_mask : ∀ (v : BitVec 7) (k : Fin 6),
    v &&& (0x40#7 ||| 1#7 <<< k.val) = 1#7 <<< k.val ↔ v.getLsbD 6 = false ∧ v.getLsbD k.val = true := by
  decide

theorem ev_rst_mask : ∀ v : BitVec 7, v &&& 0x40#7 = 0x40#7 ↔ v.getLsbD 6 = true := by decide

theorem evOps_reset {bits : BitVec 80} (hr : evRst bits = true) (s : State) : evOps bits s = [.reset] := if_pos hr

/-- Without RESET: what is asked for, or NOP where that is nothing (R97). -/
theorem evOps_of_not_reset {bits : BitVec 80} (hr : evRst bits = false) (s : State) :
    evOps bits s = if askedOps bits s = [] then [.nop] else askedOps bits s := by
  rw [evOps, if_neg (by simp [hr]), List.append_assoc, ← askedOps]
  split
  next hnil => rw [if_pos hnil]
  next i is hcons => rw [if_neg (by simp [hcons]), hcons]

theorem mem_evOps {bits : BitVec 80} {i : Instr} (hreset : i ≠ .reset) (hnop : i ≠ .nop) :
    i ∈ evOps bits s ↔ evRst bits = false ∧ i ∈ askedOps bits s := by
  cases hr : evRst bits with
  | true => simp [evOps_reset hr, hreset]
  | false =>
    rw [evOps_of_not_reset hr]
    split
    next hnil => simp [hnil, hnop]
    next => simp

theorem mem_evOps_reset (bits : BitVec 80) (s : State) : .reset ∈ evOps bits s ↔ evRst bits = true := by
  cases hr : evRst bits with
  | true => simp [evOps_reset hr]
  | false =>
    rw [evOps_of_not_reset hr]
    split
    next => simp
    next => simp [askedOps_eq, mem_pick]

theorem pick_sublist (b : Bool) (i : Instr) : (pick b i).Sublist [i] := by
  cases b
  · exact List.nil_sublist _
  · exact List.Sublist.refl _

theorem askedOps_sublist (bits : BitVec 80) (s : State) :
    (askedOps bits s).Sublist [.mbRead, .send (pinSendId bits), .initRx (pinInitRxOk bits), .initTx (pinInitTxOk bits),
      .rxTick (pinRxIn bits), .txTick] :=
  ((((pick_sublist _ _).append (pick_sublist _ _)).append (pick_sublist _ _)).append (pick_sublist _ _)).append
    ((pick_sublist _ _).append (pick_sublist _ _))

/-- An EV row that is no tick is asked for where its bit is 1; a tick, where its clock runs too (R119). -/
theorem mem_askedOps (bits : BitVec 80) (s : State) :
    (.mbRead ∈ askedOps bits s ↔ (evOf bits).getLsbD 5 = true) ∧
    (.send (pinSendId bits) ∈ askedOps bits s ↔ (evOf bits).getLsbD 4 = true) ∧
    (.initRx (pinInitRxOk bits) ∈ askedOps bits s ↔ (evOf bits).getLsbD 3 = true) ∧
    (.initTx (pinInitTxOk bits) ∈ askedOps bits s ↔ (evOf bits).getLsbD 2 = true) ∧
    (.rxTick (pinRxIn bits) ∈ askedOps bits s ↔ (evOf bits).getLsbD 1 = true ∧ s.rxEn = true) ∧
    (.txTick ∈ askedOps bits s ↔ (evOf bits).getLsbD 0 = true ∧ s.txBusy = true) := by
  simp [askedOps_eq, mem_pick, rxRuns, txRuns]

end

/-- Settles O9. -/
theorem evRowsMatchTheTable : Obligations.EvRowsMatchTheTable := by
  intro bits s
  obtain ⟨hread, hsend, hinitRx, hinitTx, hrx, htx⟩ := mem_askedOps bits s
  have mask := ev_mask (evOf bits)
  refine ⟨?_, ?_, ?_, ?_, ?_, ?_, ?_, fun hnone => ?_, fun hr => ?_, ?_, fun rest hl ht => step_ev hl ht⟩
  · rw [mem_evOps_reset, evRst_eq]
    exact (ev_rst_mask _).symm
  · rw [mem_evOps (by decide) (by decide), hread, evRst_eq]
    exact (mask 5).symm
  · rw [mem_evOps (i := .send _) nofun nofun, hsend, evRst_eq]
    exact (mask 4).symm
  · rw [mem_evOps (i := .initRx _) nofun nofun, hinitRx, evRst_eq]
    exact (mask 3).symm
  · rw [mem_evOps (i := .initTx _) nofun nofun, hinitTx, evRst_eq]
    exact (mask 2).symm
  · rw [mem_evOps (i := .rxTick _) nofun nofun, hrx, evRst_eq, ← and_assoc]
    exact and_congr_left' (mask 1).symm
  · rw [mem_evOps (by decide) (by decide), htx, evRst_eq, ← and_assoc]
    exact and_congr_left' (mask 0).symm
  · have hzero : evOf bits = 0#7 := by
      have all : ∀ v : BitVec 7, v &&& 0x7F#7 = 0x00#7 → v = 0#7 := by decide
      exact all _ hnone
    have hr : evRst bits = false := by rw [evRst_eq, hzero]; rfl
    have hnil : askedOps bits s = [] := by rw [askedOps_eq, hzero]; rfl
    rw [evOps_of_not_reset hr, if_pos hnil]
  · exact evOps_reset ((evRst_eq bits).trans ((ev_rst_mask _).mp hr)) s
  · cases hr : evRst bits with
    | true => exact .inr (by rw [evOps_reset hr]; simp)
    | false =>
      rw [evOps_of_not_reset hr]
      split
      next => exact .inl rfl
      next => exact .inr ((askedOps_sublist bits s).cons _)

end Sys2Proof.Machine
end

section
/-! PROOFS. What the stages of an edge and of a timeless step do to each other (60_exceptions.md R229). -/

namespace Sys2Proof.Machine

section

variable {s : State} {bits : BitVec 80} {id : Ident} {rx level tx : Bool}

/-! ## The host's requests, stage by stage -/

def readStage (bits : BitVec 80) (s : State) : State := onlyIf (evMbRd bits) (readMailbox s) s

def sendStage (bits : BitVec 80) (id : Ident) (s : State) : State := onlyIf (evSendReq bits) (sendOp id s) s

def initRxStage (bits : BitVec 80) (s : State) : State := onlyIf (evInitRx bits) (initRx (pinInitRxOk bits) s) s

def initTxStage (bits : BitVec 80) (s : State) : State := onlyIf (evInitTx bits) (initTx (pinInitTxOk bits) s) s

theorem hostStage_eq (bits : BitVec 80) (id : Ident) (s : State) :
    hostStage bits id s = initTxStage bits (initRxStage bits (sendStage bits id (readStage bits s))) := rfl

theorem readStage_writes (bits : BitVec 80) (s : State) : Writes [.mbReady, .readResponse] s (readStage bits s) :=
  Writes.onlyIf fun _ => readMailbox_writes s

theorem sendStage_writes (bits : BitVec 80) (id : Ident) (s : State) :
    Writes [.txFrame, .txPosition, .txBusy, .txCounter, .sendResponse] s (sendStage bits id s) :=
  Writes.onlyIf fun _ => sendOp_writes id s

theorem initRxStage_writes (bits : BitVec 80) (s : State) : Writes [.rxRole, .rxCounter] s (initRxStage bits s) :=
  Writes.onlyIf fun _ => initRx_writes _ s

theorem initTxStage_writes (bits : BitVec 80) (s : State) : Writes [.txRole] s (initTxStage bits s) :=
  Writes.onlyIf fun _ => initTx_writes _ s

theorem initStages_write (bits : BitVec 80) (s : State) :
    Writes [.rxRole, .rxCounter, .txRole] s (initTxStage bits (initRxStage bits s)) :=
  (initRxStage_writes bits s).trans (initTxStage_writes bits _)

theorem hostStage_writes (bits : BitVec 80) (id : Ident) (s : State) :
    Writes [.mbReady, .readResponse, .txFrame, .txPosition, .txBusy, .txCounter, .sendResponse, .rxRole, .rxCounter, .txRole] s
      (hostStage bits id s) :=
  ((readStage_writes bits s).trans (sendStage_writes bits id _)).trans (initStages_write bits _)

/-- An MB_READ answers what the mailbox held before (R202), and no later request answers for it. -/
theorem hostStage_readResp (hreq : evMbRd bits = true) : (hostStage bits id s).readResp = some (unread s) := by
  have hread : (readStage bits s).readResp = some (unread s) := by
    rw [readStage, hreq]
    exact readMailbox_readResp s
  have hlater := (sendStage_writes bits id (readStage bits s)).trans (initStages_write bits _)
  exact Eq.trans (hlater .readResponse (by decide)) hread

/-- A receiver that is enabled stays so: INIT_RX is ignored (R116). -/
theorem hostStage_rxEn (hen : s.rxEn = true) : (hostStage bits id s).rxEn = true := by
  obtain ⟨hbefore, -⟩ := ((readStage_writes bits s).trans (sendStage_writes bits id _)) .rxRole (by decide)
  have hinit : (initRxStage bits (sendStage bits id (readStage bits s))).rxEn = true :=
    onlyIf_of_both (P := fun u => u.rxEn = true) (hbefore.trans hen) ((initRx_keeps_flags _ _).1 (hbefore.trans hen))
  obtain ⟨hafter, -⟩ := initTxStage_writes bits (initRxStage bits (sendStage bits id (readStage bits s))) .rxRole (by decide)
  exact hafter.trans hinit

/-- A SEND that is rejected writes only its answer, and no other request writes the transmission (R131, R137). -/
theorem hostStage_rejected (hreq : evSendReq bits = true) (hrej : s.txEn = false ∨ s.txBusy = true) :
    (hostStage bits id s).sendResp = some false ∧
      Writes [.mbReady, .readResponse, .sendResponse, .rxRole, .rxCounter, .txRole] s (hostStage bits id s) := by
  have hread := readStage_writes bits s
  obtain ⟨hen, -⟩ := hread .txRole (by decide)
  have hbusy := hread .txBusy (by decide)
  have hsend : sendStage bits id (readStage bits s) = respondSend false (readStage bits s) := by
    rw [sendStage, hreq]
    exact sendOp_rejected id (hrej.imp hen.trans hbusy.trans)
  rw [hostStage_eq, hsend]
  have hinit := initStages_write bits (respondSend false (readStage bits s))
  exact ⟨hinit .sendResponse (by decide), (hread.trans (respondSend_writes false _)).trans hinit⟩

theorem hostStage_accepted (hreq : evSendReq bits = true) (hen : s.txEn = true) (hidle : s.txBusy = false) :
    (hostStage bits id s).txBusy = true ∧ (hostStage bits id s).txCnt = 0 ∧ (hostStage bits id s).txFrame = frameBytes id ∧
      (hostStage bits id s).sendResp = some true ∧ (hostStage bits id s).txByte = 0 ∧ (hostStage bits id s).txBit = 0 := by
  have hread := readStage_writes bits s
  obtain ⟨hen', -⟩ := hread .txRole (by decide)
  have hidle' := hread .txBusy (by decide)
  have hsend : sendStage bits id (readStage bits s) = acceptSend id (readStage bits s) := by
    rw [sendStage, hreq]
    exact Host.Outcome.next.inj (execSend_accepted id (hen'.trans hen) (Eq.trans hidle' hidle))
  rw [hostStage_eq, hsend]
  have hinit := initStages_write bits (acceptSend id (readStage bits s))
  obtain ⟨hbyte, hbit⟩ := hinit .txPosition (by decide)
  exact ⟨hinit .txBusy (by decide), hinit .txCounter (by decide), hinit .txFrame (by decide), hinit .sendResponse (by decide),
    hbyte, hbit⟩

/-- A first INIT_TX, beside any other requests, enables the role (R117). -/
theorem hostStage_initTx (hreq : evInitTx bits = true) (hok : pinInitTxOk bits = true) (hen : s.txEn = false)
    (herr : s.txErr = false) : (hostStage bits id s).txEn = true := by
  obtain ⟨hen', herr'⟩ := ((readStage_writes bits s).trans (sendStage_writes bits id _)).trans
    (initRxStage_writes bits _) .txRole (by decide)
  rw [hostStage_eq, initTxStage, hreq, hok]
  exact congrArg State.txEn (initTx_ok (hen'.trans hen) (herr'.trans herr))

/-- A first INIT_RX, beside any other requests, enables the role and starts its counter (R116, R112). -/
theorem hostStage_initRx (hreq : evInitRx bits = true) (hok : pinInitRxOk bits = true) (hen : s.rxEn = false)
    (herr : s.rxErr = false) : (hostStage bits id s).rxEn = true ∧ (hostStage bits id s).rxCnt = 0 := by
  obtain ⟨hen', herr'⟩ := ((readStage_writes bits s).trans (sendStage_writes bits id _)) .rxRole (by decide)
  have hinit : initRxStage bits (sendStage bits id (readStage bits s)) =
      { sendStage bits id (readStage bits s) with rxEn := true, rxCnt := 0 } := by
    rw [initRxStage, hreq, hok]
    exact initRx_ok (hen'.trans hen) (herr'.trans herr)
  rw [hostStage_eq, hinit]
  have hlast := initTxStage_writes bits { sendStage bits id (readStage bits s) with rxEn := true, rxCnt := 0 }
  obtain ⟨hrxEn, -⟩ := hlast .rxRole (by decide)
  exact ⟨hrxEn, hlast .rxCounter (by decide)⟩

/-! ## The ticks after the requests -/

theorem rxStage_writes (rx level : Bool) (s : State) :
    Writes [.sampler, .synchronizer, .mbSlot, .mbReady] s (onlyIf rx (rxTickOp level s) s) :=
  Writes.onlyIf fun _ => rxTickOp_writes level s

theorem txStage_writes (tx : Bool) (s : State) : Writes [.txPosition, .txBusy, .txEnv] s (onlyIf tx (txTickOp s) s) :=
  Writes.onlyIf fun _ => txTickOp_writes s

/-- The RX tick that completes a foreign frame delivers it (R172, R191, R201). -/
theorem rxTickOp_delivers (level : Bool) (hen : s.rxEn = true) (hbusy : s.rxBusy = true) (h8 : s.rxIdx.val = 8)
    (hcol : s.syState = .col) (h5 : s.plIdx.val = 5) (hid : payloadIdent s.pl s.rxByte ≠ s.cfg.localId) :
    (rxTickOp level s).mbReady = true ∧ (rxTickOp level s).mbSlot = payloadIdent s.pl s.rxByte := by
  rw [rxTickOp_stop level hen hbusy h8, stopChar_eq, byteDoneOp_col_last s.rxByte hcol h5,
    emitFrame_foreign (s := { s with pl := s.pl.set 5 s.rxByte, syState := .wp1 }) hid]
  exact ⟨rfl, rfl⟩

/-- MB_READ with the RX tick that delivers: the old content is answered, the new one stands in the mailbox (R229). -/
theorem stages_read_and_deliver (hreq : evMbRd bits = true) (hen : s.rxEn = true) (hbusy : s.rxBusy = true)
    (h8 : s.rxIdx.val = 8) (hcol : s.syState = .col) (h5 : s.plIdx.val = 5)
    (hid : payloadIdent s.pl s.rxByte ≠ s.cfg.localId) :
    (tickStage true level tx (hostStage bits id s)).readResp = some (unread s) ∧
      (tickStage true level tx (hostStage bits id s)).mbReady = true ∧
      (tickStage true level tx (hostStage bits id s)).mbSlot = payloadIdent s.pl s.rxByte := by
  have hhost := hostStage_writes bits id s
  obtain ⟨hbusy', hidx, hbyte⟩ := hhost .sampler (by decide)
  obtain ⟨hsy, hpl, hbuf⟩ := hhost .synchronizer (by decide)
  obtain ⟨-, -, hcfg, -⟩ := hhost .fixed (by decide)
  obtain ⟨hready, hslot⟩ := rxTickOp_delivers (s := hostStage bits id s) level (hostStage_rxEn hen) (hbusy'.trans hbusy)
    (by rw [hidx, h8]) (hsy.trans hcol) (by rw [hpl, h5]) (by rw [hbuf, hbyte, hcfg]; exact hid)
  have hrx := rxStage_writes true level (hostStage bits id s)
  have htx := txStage_writes tx (rxTickOp level (hostStage bits id s))
  refine ⟨?_, Eq.trans (htx .mbReady (by decide)) hready, ?_⟩
  · exact Eq.trans (hrx.trans htx .readResponse (by decide)) (hostStage_readResp hreq)
  · rw [hbuf, hbyte] at hslot
    exact Eq.trans (htx .mbSlot (by decide)) hslot

/-- SEND with the last TX tick: it is rejected, and the tick then ends the transmission (R229). -/
theorem stages_send_and_end (hreq : evSendReq bits = true) (hbusy : s.txBusy = true) (h8 : s.txByte.val = 8) :
    (tickStage rx level true (hostStage bits id s)).sendResp = some false ∧
      (tickStage rx level true (hostStage bits id s)).txBusy = false ∧
      (tickStage rx level true (hostStage bits id s)).txFrame = s.txFrame := by
  obtain ⟨hresp, hhost⟩ := hostStage_rejected (id := id) hreq (.inr hbusy)
  have hrx := rxStage_writes rx level (hostStage bits id s)
  have hboth := hhost.trans hrx
  obtain ⟨hbyte, -⟩ := hboth .txPosition (by decide)
  have hend := txTickOp_end (s := onlyIf rx (rxTickOp level (hostStage bits id s)) (hostStage bits id s))
    (Eq.trans (hboth .txBusy (by decide)) hbusy) (by rw [hbyte, h8])
  have htick : tickStage rx level true (hostStage bits id s) = _ := hend
  rw [htick]
  exact ⟨Eq.trans (hrx .sendResponse (by decide)) hresp, rfl, hboth .txFrame (by decide)⟩

/-- SEND with a first INIT_TX: the role is not yet enabled when SEND is decided (R229). -/
theorem stages_send_and_initTx (hreq : evSendReq bits = true) (hinit : evInitTx bits = true) (hok : pinInitTxOk bits = true)
    (hen : s.txEn = false) (herr : s.txErr = false) (hidle : s.txBusy = false) :
    (tickStage rx level false (hostStage bits id s)).sendResp = some false ∧
      (tickStage rx level false (hostStage bits id s)).txBusy = false ∧
      (tickStage rx level false (hostStage bits id s)).txEn = true := by
  obtain ⟨hresp, hhost⟩ := hostStage_rejected (id := id) hreq (.inl hen)
  have hrx := rxStage_writes rx level (hostStage bits id s)
  obtain ⟨hen', -⟩ := hrx .txRole (by decide)
  exact ⟨Eq.trans (hrx .sendResponse (by decide)) hresp, Eq.trans (hhost.trans hrx .txBusy (by decide)) hidle,
    hen'.trans (hostStage_initTx hinit hok hen herr)⟩

/-- An accepted SEND, whose clock did not run before: no TX tick follows it (R229, R112). -/
theorem stages_accepted (hreq : evSendReq bits = true) (hen : s.txEn = true) (hidle : s.txBusy = false) :
    (tickStage rx level false (hostStage bits id s)).txBusy = true ∧
      (tickStage rx level false (hostStage bits id s)).txCnt = 0 ∧
      (tickStage rx level false (hostStage bits id s)).txFrame = frameBytes id ∧
      (tickStage rx level false (hostStage bits id s)).sendResp = some true ∧
      (tickStage rx level false (hostStage bits id s)).txByte = 0 ∧
      (tickStage rx level false (hostStage bits id s)).txBit = 0 ∧
      (tickStage rx level false (hostStage bits id s)).txEnv = s.txEnv := by
  obtain ⟨hbusy, hcnt, hframe, hresp, hbyte, hbit⟩ := hostStage_accepted (id := id) hreq hen hidle
  have hrx := rxStage_writes rx level (hostStage bits id s)
  obtain ⟨hbyte', hbit'⟩ := hrx .txPosition (by decide)
  exact ⟨Eq.trans (hrx .txBusy (by decide)) hbusy, Eq.trans (hrx .txCounter (by decide)) hcnt,
    Eq.trans (hrx .txFrame (by decide)) hframe, Eq.trans (hrx .sendResponse (by decide)) hresp, hbyte'.trans hbyte,
    hbit'.trans hbit, (hostStage_writes bits id s).trans hrx .txEnv (by decide)⟩

/-- A first INIT_RX, whose clock did not run before: no RX tick follows it (R229, R112). -/
theorem stages_initRx (hreq : evInitRx bits = true) (hok : pinInitRxOk bits = true) (hen : s.rxEn = false)
    (herr : s.rxErr = false) :
    (tickStage false level tx (hostStage bits id s)).rxEn = true ∧
      (tickStage false level tx (hostStage bits id s)).rxCnt = 0 ∧
      (tickStage false level tx (hostStage bits id s)).rxBusy = s.rxBusy ∧
      (tickStage false level tx (hostStage bits id s)).rxIdx = s.rxIdx ∧
      (tickStage false level tx (hostStage bits id s)).rxByte = s.rxByte := by
  obtain ⟨hen', hcnt⟩ := hostStage_initRx (id := id) hreq hok hen herr
  have htx := txStage_writes tx (hostStage bits id s)
  obtain ⟨hrole, -⟩ := htx .rxRole (by decide)
  exact ⟨hrole.trans hen', Eq.trans (htx .rxCounter (by decide)) hcnt,
    (hostStage_writes bits id s).trans htx .sampler (by decide)⟩

end

/-! ## The statements of R229 -/

section

variable {s : State} {bits : BitVec 80} {rest : List Code}

/-- An edge without RESET as the next step. -/
theorem step_clk_stages (hl : launchable s = true) (ht : s.trace = ⟨.clk, bits⟩ :: rest) (hr : evRst bits = false) :
    step s = .next (shiftFree (pinRxIn bits)
      (tickStage (rxTickDue s) (sampledLevel s) (txTickDue s) (hostStage bits s.sendIdPort (bcCount (fetched rest s))))) :=
  (step_clk hl ht).trans (clkEdge_stages hr _)

/-- A timeless step without RESET. -/
theorem step_ev_stages (hl : launchable s = true) (ht : s.trace = ⟨.ev, bits⟩ :: rest) (hr : evRst bits = false) :
    step s = .next (tickStage (evRxTick bits && s.rxEn) (pinRxIn bits) (evTxTick bits && s.txBusy)
      (hostStage bits (pinSendId bits) (fetched rest s))) :=
  (step_ev hl ht).trans (runAll_evOps_stages hr s _)

theorem rxTickDue_of_disabled (hen : s.rxEn = false) : rxTickDue s = false := by simp [rxTickDue, rxRuns, hen]

theorem txTickDue_of_idle (hidle : s.txBusy = false) : txTickDue s = false := by simp [txTickDue, txRuns, hidle]

end

/-- Settles O49: at an edge the stages work on the counted state, in a timeless step on the fetched one; neither has other fields of
the roles than the state before. -/
theorem edgeCoincidences : Obligations.EdgeCoincidences := by
  refine ⟨fun s bits rest hl ht hr => ?_, fun s bits rest hl ht hr => ?_⟩
  · rw [step_clk_stages hl ht hr]
    refine ⟨fun hreq hdue hbusy h8 hcol h5 hid => ⟨_, rfl, ?_⟩, fun hreq _ hdue h8 => ⟨_, rfl, ?_⟩,
      fun hreq hinit hok hen herr hidle => ⟨_, rfl, ?_⟩⟩
    · obtain ⟨hen, -⟩ := (rxTickDue_iff s).mp hdue
      rw [hdue]
      exact stages_read_and_deliver (s := bcCount (fetched rest s)) hreq hen hbusy h8 hcol h5 hid
    · obtain ⟨hbusy, -⟩ := (txTickDue_iff s).mp hdue
      rw [hdue]
      exact stages_send_and_end (s := bcCount (fetched rest s)) hreq hbusy h8
    · rw [txTickDue_of_idle hidle]
      exact stages_send_and_initTx (s := bcCount (fetched rest s)) hreq hinit hok hen herr hidle
  · rw [step_ev_stages hl ht hr]
    refine ⟨fun hreq htick hen hbusy h8 hcol h5 hid => ⟨_, rfl, ?_⟩, fun hreq htick _ hbusy h8 => ⟨_, rfl, ?_⟩,
      fun hreq hinit hok hen herr hidle => ⟨_, rfl, ?_⟩, fun hreq hen hidle => ⟨_, rfl, ?_⟩,
      fun hreq hok hen herr => ⟨_, rfl, ?_⟩⟩
    · rw [htick, hen, Bool.and_self]
      exact stages_read_and_deliver (s := fetched rest s) hreq hen hbusy h8 hcol h5 hid
    · rw [htick, hbusy, Bool.and_self]
      exact stages_send_and_end (s := fetched rest s) hreq hbusy h8
    · rw [hidle, Bool.and_false]
      exact stages_send_and_initTx (s := fetched rest s) hreq hinit hok hen herr hidle
    · rw [hidle, Bool.and_false]
      obtain ⟨hbusy, -, hframe, hresp, hrest⟩ := stages_accepted (s := fetched rest s) (id := pinSendId bits) hreq hen hidle
      exact ⟨hresp, hbusy, hframe, hrest⟩
    · rw [hen, Bool.and_false]
      obtain ⟨hrx, -, hsampler⟩ := stages_initRx (s := fetched rest s) hreq hok hen herr
      exact ⟨hrx, hsampler⟩

/-- Settles O50: the start comes after the count, and the clock that starts was not due, as it did not run. -/
theorem startOverridesTheCount : Obligations.StartOverridesTheCount := by
  intro s bits rest hl ht hr
  rw [step_clk_stages hl ht hr]
  refine ⟨fun hreq hen hidle => ⟨_, rfl, ?_⟩, fun hreq hok hen herr => ⟨_, rfl, ?_⟩⟩
  · rw [txTickDue_of_idle hidle]
    exact stages_accepted (s := bcCount (fetched rest s)) hreq hen hidle
  · rw [rxTickDue_of_disabled hen]
    exact stages_initRx (s := bcCount (fetched rest s)) hreq hok hen herr

/-- The synchroniser and the carrier counter after an edge (R25, R36). -/
theorem shiftFree_eq (l : Bool) (s : State) :
    shiftFree l s = { s with
      rxMeta := BitVec.ofBool (s.rxMeta.getLsbD 0) ++ BitVec.ofBool l
      carCnt := if s.carCnt + 1 < s.cfg.carDiv then s.carCnt + 1 else 0 } := by
  have hlow : ∀ m : BitVec 2, m.extractLsb' 0 1 = BitVec.ofBool (m.getLsbD 0) := by decide
  simp only [shiftFree, hlow, Config.carDiv, Nat.add_lt_add_iff_right]

/-- Settles O51: RESET stands alone in both views. -/
theorem resetOverridesEveryRequest : Obligations.ResetOverridesEveryRequest := by
  refine fun s bits rest hl hr => ⟨fun ht => ?_, fun ht => ?_⟩
  · rw [step_ev hl ht, evOps_reset hr]
    rfl
  · rw [step_clk hl ht, clkEdge_rst bits _ hr, shiftFree_eq]
    rfl

/-- Settles O52: no row writes the free registers, and the edge then moves them. -/
theorem everyEdgeMovesTheFreeRegisters : Obligations.EveryEdgeMovesTheFreeRegisters := by
  intro s bits rest hl ht
  obtain ⟨u, ⟨hmeta, hcar, hcfg, -⟩, hedge⟩ := clkEdge_shiftFree bits (fetched rest s)
  have hbits : ∀ (m : BitVec 2) (l : Bool), (BitVec.ofBool (m.getLsbD 0) ++ BitVec.ofBool l).getLsbD 0 = l ∧
      (BitVec.ofBool (m.getLsbD 0) ++ BitVec.ofBool l).getLsbD 1 = m.getLsbD 0 := by decide
  obtain ⟨hzero, hone⟩ := hbits u.rxMeta (pinRxIn bits)
  rw [step_clk hl ht, hedge, shiftFree_eq]
  refine ⟨_, rfl, hzero, hone.trans (by rw [hmeta]; rfl), fun hlt => ?_, fun heq => ?_⟩
  · simp only [hcar, hcfg, fetched_carCnt, fetched_cfg, if_pos hlt]
  · simp only [hcar, hcfg, fetched_carCnt, fetched_cfg, heq, lt_irrefl, if_false]

/-! ## An edge performs its row, or its requests one by one -/

/-- An edge with no request has no host stage. -/
theorem hostStage_none {bits : BitVec 80} (h : (bits.extractLsb' 2 4 : BitVec 4) = 0#4) (id : Ident) (s : State) :
    hostStage bits id s = s := by
  have hbit (k : Nat) (hk : k < 4) : bits.getLsbD (2 + k) = false := by
    have := congrArg (fun v => BitVec.getLsbD v k) h
    simpa [hk] using this
  have hread : evMbRd bits = false := hbit 3 (by decide)
  have hsend : evSendReq bits = false := hbit 2 (by decide)
  have hinitRx : evInitRx bits = false := hbit 1 (by decide)
  have hinitTx : evInitTx bits = false := hbit 0 (by decide)
  simp [hostStage, onlyIf, hread, hsend, hinitRx, hinitTx]

/-- An edge that names one row performs it (R114, R229). -/
theorem clkEdge_decoded {bits : BitVec 80} {i : Instr} {s t : State} (hi : decodeClk bits = .ok i) (h : exec i s = .next t) :
    clkEdge bits s = .next (shiftFree (pinRxIn bits) t) := by
  cases hr : evRst bits with
  | true =>
    rw [decodeClk, if_pos hr] at hi
    cases hi
    cases h
    exact clkEdge_rst bits s hr
  | false =>
    simp only [decodeClk, hr, Bool.false_eq_true, if_false] at hi
    split at hi
    next hnone =>
      cases hi
      cases h
      rw [clkEdge_stages hr, hostStage_none hnone]
      rfl
    next => cases hi

/-- A counter in its range counts to BIT_DIV - 1 and returns to 0 (R114, R105). -/
theorem nextCount_of_lt {c : Config} {run : Bool} {cnt : Nat} (h : cnt < c.bitDiv) :
    nextCount c run cnt = if run then (if cnt + 1 = c.bitDiv then 0 else cnt + 1) else cnt := by
  cases run with
  | false => rfl
  | true =>
    rw [nextCount_running h, if_pos rfl]
    split
    next heq => rw [heq, Nat.mod_self]
    next hne => exact Nat.mod_eq_of_lt (by omega)

theorem bcCount_fetched {s : State} (rest : List Code) (hrx : s.rxCnt < s.cfg.bitDiv) (htx : s.txCnt < s.cfg.bitDiv) :
    bcCount (fetched rest s) =
      { s with
        trace := rest, sendResp := none, readResp := none
        rxCnt := if s.rxEn then (if s.rxCnt + 1 = s.cfg.bitDiv then 0 else s.rxCnt + 1) else s.rxCnt
        txCnt := if s.txBusy then (if s.txCnt + 1 = s.cfg.bitDiv then 0 else s.txCnt + 1) else s.txCnt } := by
  rw [← nextCount_of_lt hrx, ← nextCount_of_lt htx]
  rfl

/-- Settles O2: an edge that names one row performs that row; any other performs its stages, each a requested operation. -/
theorem clockEdgePerformsItsRow : Obligations.ClockEdgePerformsItsRow := by
  refine ⟨fun s t c rest i hl ht hfmt hi h => ?_,
    fun s s0 s1 s2 s3 s4 s5 s6 bits rest hl ht hr h0 h1 h2 h3 h4 h5 h6 => ?_⟩
  · obtain ⟨fmt, bits⟩ := c
    obtain rfl : fmt = .clk := hfmt
    rw [step_clk hl ht]
    exact clkEdge_decoded hi h
  · obtain ⟨-, -, hrx, htx⟩ := (launchable_iff s).mp hl
    have hrxDue : (s.rxEn && s.rxCnt + 1 == s.cfg.bitDiv) = rxTickDue s := by
      rw [Bool.eq_iff_iff, rxTickDue_iff]
      simp
    have htxDue : (s.txBusy && s.txCnt + 1 == s.cfg.bitDiv) = txTickDue s := by
      rw [Bool.eq_iff_iff, txTickDue_iff]
      simp
    rw [hrxDue] at h5
    rw [htxDue] at h6
    rw [step_clk_stages hl ht hr, bcCount_fetched rest hrx htx, ← h0]
    rw [← h6.onlyIf_eq rfl, ← h5.onlyIf_eq rfl, ← h4.onlyIf_eq rfl, ← h3.onlyIf_eq rfl, ← h2.onlyIf_eq rfl, ← h1.onlyIf_eq rfl]
    rfl

end Sys2Proof.Machine
end

section
/-! PROOFS. Characters, frames and sequences of bytes (43_frame_sync.md R173, 70_reset_and_hazards.md R266). The Synchronizer is in
COL at an index exactly after a first preamble byte received in WP1, the second, and as many payload bytes as the index says; so
what was received tells when a frame is emitted, and what it holds. -/

namespace Sys2Proof

/-! ## The bytes of a packed identity (R64) -/

theorem byteAt_getLsbD (b : Byte) {n m i : Nat} (hn : n % 8 = 0) (hm : m % 8 = 0) (h48 : m < 48) (hi : i < 8) :
    (byteAt b n).getLsbD (m + i) = (decide (n = m) && b.getLsbD i) := by
  have hbound : m + i < 48 := by omega
  simp only [byteAt, BitVec.getLsbD_shiftLeft, BitVec.getLsbD_setWidth, hbound, decide_true, Bool.true_and]
  by_cases hnm : n = m
  · subst hnm
    have hsub : i < 48 := by omega
    simp [hsub]
  · by_cases hle : n ≤ m + i
    · have hout : b.getLsbD (m + i - n) = false := BitVec.getLsbD_of_ge _ _ (by omega)
      simp [hnm, hout]
    · have hlt : m + i < n := by omega
      simp [hnm, hlt]

theorem packIdent_extract (b0 b1 b2 b3 b4 b5 : Byte) (k : Fin 6) :
    (packIdent b0 b1 b2 b3 b4 b5).extractLsb' (8 * k.val) 8 = #v[b0, b1, b2, b3, b4, b5][k.val] := by
  refine BitVec.eq_of_getLsbD_eq fun i hi => ?_
  have hm : 8 * k.val % 8 = 0 := by omega
  have h48 : 8 * k.val < 48 := by omega
  have byte (b : Byte) (n : Nat) (hn : n % 8 = 0) := byteAt_getLsbD b hn hm h48 hi
  simp only [BitVec.getLsbD_extractLsb', hi, decide_true, Bool.true_and, packIdent, BitVec.getLsbD_or, byte, Nat.reduceMod]
  fin_cases k <;> simp

/-- The payload buffer after bytes stored from index `k` on, byte by byte. -/
theorem storedFrom_getElem (bs : List Byte) (pl : Vector Byte 6) {k j : Nat} (hj : j < 6) (hlt : j < k + bs.length) :
    some (storedFrom k pl bs)[j] = if j < k then some pl[j] else bs[j - k]? := by
  induction bs generalizing k pl with
  | nil => rw [if_pos (by simpa using hlt)]; rfl
  | cons b bs ih =>
    rw [List.length_cons] at hlt
    have hrest := ih (pl.setIfInBounds k b) (k := k + 1) (by omega)
    rw [storedFrom, hrest]
    rcases Nat.lt_trichotomy j k with h | h | h
    · rw [if_pos (by omega), if_pos h, Vector.getElem_setIfInBounds_ne _ (by omega)]
    · subst h
      simp
    · obtain ⟨d, rfl⟩ := Nat.exists_eq_add_of_lt h
      rw [if_neg (by omega), if_neg (by omega), show k + d + 1 - k = d + 1 by omega, show k + d + 1 - (k + 1) = d by omega,
        List.getElem?_cons_succ]

theorem storedFrom_concat (bs : List Byte) (b : Byte) (pl : Vector Byte 6) (k : Nat) :
    storedFrom k pl (bs ++ [b]) = (storedFrom k pl bs).setIfInBounds (k + bs.length) b := by
  induction bs generalizing k pl with
  | nil => rfl
  | cons c cs ih =>
    rw [List.cons_append, storedFrom, ih, storedFrom, List.length_cons, Nat.add_right_comm, Nat.add_assoc]

end Sys2Proof

namespace Sys2Proof.Machine

section

variable {s : State}

theorem bytesDone_concat (bs : List Byte) (b : Byte) (s : State) : bytesDone (bs ++ [b]) s = byteDoneOp b (bytesDone bs s) :=
  bytesDone_append bs [b] s

theorem byteDoneOp_cfg (b : Byte) (s : State) : (byteDoneOp b s).cfg = s.cfg := (byteDoneOp_sameRest b s).cfg

theorem bytesDone_cfg (bs : List Byte) (s : State) : (bytesDone bs s).cfg = s.cfg := by
  induction bs generalizing s with
  | nil => rfl
  | cons b bs ih => exact (ih (byteDoneOp b s)).trans (byteDoneOp_cfg b s)

/-! ## What was received, from the state of the Synchronizer (R173) -/

/-- From WP1: WP2 is reached only by 5A in WP1, and COL only by 5A in WP1, 54 and the payload bytes the index counts. -/
theorem bytesDone_history (h1 : s.syState = .wp1) (bs : List Byte) :
    ((bytesDone bs s).syState = .wp2 → ∃ pre, bs = pre ++ [0x5A#8] ∧ (bytesDone pre s).syState = .wp1) ∧
    ((bytesDone bs s).syState = .col → ∃ pre payload, bs = pre ++ 0x5A#8 :: 0x54#8 :: payload ∧
      payload.length = (bytesDone bs s).plIdx.val ∧ (bytesDone pre s).syState = .wp1) := by
  induction bs using List.reverseRecOn with
  | nil =>
    have hnil : (bytesDone [] s).syState = .wp1 := h1
    rw [hnil]
    exact ⟨nofun, nofun⟩
  | append_singleton bs b ih =>
    obtain ⟨ihWp2, ihCol⟩ := ih
    rw [bytesDone_concat]
    rcases byteDoneOp_cases b (bytesDone bs s) with ⟨hsy, rfl, hop⟩ | ⟨-, -, hop⟩ | ⟨hsy, rfl, hop⟩ | ⟨-, -, hop⟩ |
      ⟨hsy, hlt, hop⟩ | ⟨-, -, hop⟩ <;> rw [hop]
    · exact ⟨fun _ => ⟨bs, rfl, hsy⟩, nofun⟩
    · exact ⟨nofun, nofun⟩
    · obtain ⟨pre, rfl, hpre⟩ := ihWp2 hsy
      exact ⟨nofun, fun _ => ⟨pre, [], by simp [Config.preamble2], rfl, hpre⟩⟩
    · exact ⟨nofun, nofun⟩
    · obtain ⟨pre, payload, hbs, hlen, hpre⟩ := ihCol hsy
      refine ⟨fun h => absurd (hsy.symm.trans h) (by decide), fun _ => ⟨pre, payload ++ [b], by simp [hbs], ?_, hpre⟩⟩
      rw [List.length_append, List.length_singleton, hlen]
    · obtain ⟨-, -, -, hsy, -⟩ := emitFrame_rx (payloadIdent (bytesDone bs s).pl b)
        { storePayload b (bytesDone bs s) with syState := .wp1 }
      rw [hsy]
      exact ⟨nofun, nofun⟩

/-- After 5A received in WP1 and 54 a payload begins. -/
theorem bytesDone_preamble {pre : List Byte} (hpre : (bytesDone pre s).syState = .wp1) (payload : List Byte) :
    bytesDone (pre ++ 0x5A#8 :: 0x54#8 :: payload) s =
      bytesDone payload (collecting 0 (bytesDone pre s).pl (bytesDone pre s)) := by
  have hbegin : bytesDone [Config.preamble1, Config.preamble2] (bytesDone pre s) =
      collecting 0 (bytesDone pre s).pl (bytesDone pre s) := bytesDone_noise_preamble (bs := []) hpre (by simp)
  rw [← hbegin, bytesDone_append]
  rfl

/-- COL at index 5, where the next byte emits, is exactly 5A received in WP1, 54 and five bytes. -/
theorem collects_five_iff (h1 : s.syState = .wp1) (bs : List Byte) :
    (bytesDone bs s).syState = .col ∧ (bytesDone bs s).plIdx.val = 5 ↔
      ∃ pre payload, bs = pre ++ 0x5A#8 :: 0x54#8 :: payload ∧ payload.length = 5 ∧ (bytesDone pre s).syState = .wp1 := by
  constructor
  · rintro ⟨hcol, h5⟩
    obtain ⟨pre, payload, hbs, hlen, hpre⟩ := (bytesDone_history h1 bs).2 hcol
    exact ⟨pre, payload, hbs, hlen.trans h5, hpre⟩
  · rintro ⟨pre, payload, rfl, hlen, hpre⟩
    rw [bytesDone_preamble hpre, bytesDone_collecting _ _ _ (by omega), hlen]
    exact ⟨rfl, rfl⟩

/-- The sixth byte emits the identity of the six (R172, R62). -/
theorem bytesDone_emits {pre six : List Byte} {id : Ident} (hpre : (bytesDone pre s).syState = .wp1) (hlen : six.length = 6)
    (hid : ∀ k : Fin 6, some (id.extractLsb' (8 * k.val) 8) = six[k.val]?) :
    ∃ pl, bytesDone (pre ++ 0x5A#8 :: 0x54#8 :: six) s = emitFrame id (collected pl (bytesDone pre s)) := by
  obtain ⟨b0, b1, b2, b3, b4, b5, rfl⟩ : ∃ b0 b1 b2 b3 b4 b5, six = [b0, b1, b2, b3, b4, b5] := by
    match six, hlen with
    | [b0, b1, b2, b3, b4, b5], _ => exact ⟨b0, b1, b2, b3, b4, b5, rfl⟩
  have hpack : id = packIdent b0 b1 b2 b3 b4 b5 :=
    eq_packIdent (Option.some.inj (hid 0)) (Option.some.inj (hid 1)) (Option.some.inj (hid 2)) (Option.some.inj (hid 3))
      (Option.some.inj (hid 4)) (Option.some.inj (hid 5))
  rw [bytesDone_preamble hpre, bytesDone_payload, ← hpack]
  exact ⟨_, rfl⟩

/-- Six bytes are the bytes of one identity. -/
theorem exists_ident {six : List Byte} (hlen : six.length = 6) :
    ∃ id : Ident, ∀ k : Fin 6, some (id.extractLsb' (8 * k.val) 8) = six[k.val]? := by
  match six, hlen with
  | [b0, b1, b2, b3, b4, b5], _ =>
    refine ⟨packIdent b0 b1 b2 b3 b4 b5, fun k => ?_⟩
    rw [packIdent_extract]
    fin_cases k <;> rfl

/-- The mailbox after FRAME_EMIT: the identity, or what it was (R191, R201). -/
theorem emitFrame_mailbox (id : Ident) (s : State) :
    (id ≠ s.cfg.localId → (emitFrame id s).mbReady = true ∧ (emitFrame id s).mbSlot = id) ∧
    (id = s.cfg.localId → (emitFrame id s).mbReady = s.mbReady ∧ (emitFrame id s).mbSlot = s.mbSlot) := by
  refine ⟨fun hid => ?_, fun hid => ?_⟩
  · rw [emitFrame_foreign hid]; exact ⟨rfl, rfl⟩
  · rw [emitFrame_local hid]; exact ⟨rfl, rfl⟩

theorem emitFrame_syState (id : Ident) (s : State) : (emitFrame id s).syState = s.syState := by
  obtain ⟨-, -, -, hsy, -⟩ := emitFrame_rx id s
  exact hsy

/-- A byte that changes the mailbox is the sixth of a payload, and the slot holds the six (R173). -/
theorem mailbox_changed (h1 : s.syState = .wp1) (bs : List Byte) (b : Byte)
    (hchanged : ¬((bytesDone (bs ++ [b]) s).mbReady = (bytesDone bs s).mbReady ∧
      (bytesDone (bs ++ [b]) s).mbSlot = (bytesDone bs s).mbSlot)) :
    ∃ pre six, bs ++ [b] = pre ++ 0x5A#8 :: 0x54#8 :: six ∧ six.length = 6 ∧ (bytesDone pre s).syState = .wp1 ∧
      ∀ k : Fin 6, some ((bytesDone (bs ++ [b]) s).mbSlot.extractLsb' (8 * k.val) 8) = six[k.val]? := by
  have hlast : (bytesDone bs s).syState = .col ∧ (bytesDone bs s).plIdx.val = 5 := by
    by_contra hinside
    have hwrites := byteDoneOp_inside_writes b hinside
    rw [bytesDone_concat] at hchanged
    exact hchanged ⟨hwrites .mbReady (by decide), hwrites .mbSlot (by decide)⟩
  obtain ⟨pre, five, hbs, hlen, hpre⟩ := (collects_five_iff h1 bs).mp hlast
  have hsix : (five ++ [b]).length = 6 := by rw [List.length_append, hlen]; rfl
  obtain ⟨id, hid⟩ := exists_ident hsix
  obtain ⟨pl, hemit⟩ := bytesDone_emits hpre hsix hid
  have hall : bs ++ [b] = pre ++ 0x5A#8 :: 0x54#8 :: (five ++ [b]) := by simp [hbs]
  obtain ⟨hforeign, hlocal⟩ := emitFrame_mailbox id (collected pl (bytesDone pre s))
  obtain ⟨pl', hbefore⟩ : ∃ pl', bytesDone bs s = collecting 5 pl' (bytesDone pre s) :=
    ⟨_, by rw [hbs, bytesDone_preamble hpre, bytesDone_collecting _ _ _ (by omega), hlen]⟩
  by_cases hdrop : id = (collected pl (bytesDone pre s)).cfg.localId
  · rw [hall, hemit, hbefore] at hchanged
    exact absurd (hlocal hdrop) hchanged
  · refine ⟨pre, five ++ [b], hall, hsix, hpre, fun k => ?_⟩
    rw [hall, hemit, (hforeign hdrop).2]
    exact hid k

/-! ## Runs of the first preamble byte -/

theorem preamble1_syState (n : Nat) (h1 : s.syState = .wp1) :
    (bytesDone (List.replicate n Config.preamble1) s).syState = if n % 2 = 1 then .wp2 else .wp1 := by
  induction n with
  | zero => exact h1
  | succ n ih =>
    rw [List.replicate_succ', bytesDone_concat]
    split at ih
    next hodd =>
      rw [byteDoneOp_wp2_miss ih (by decide), if_neg (by omega)]
    next heven =>
      rw [byteDoneOp_wp1_hit ih, if_pos (by omega)]

end

/-- Settles O38. -/
theorem oddRunsOfPreambleSynchronise : Obligations.OddRunsOfPreambleSynchronise := by
  refine ⟨fun s bs h1 => collects_five_iff h1 bs, fun s pre six id hpre hlen hid => ?_,
    fun s bs b h1 hchanged => mailbox_changed h1 bs b hchanged, fun s n h1 => ?_⟩
  · obtain ⟨pl, hemit⟩ := bytesDone_emits hpre hlen hid
    have hmailbox := emitFrame_mailbox id (collected pl (bytesDone pre s))
    have hcfg : (collected pl (bytesDone pre s)).cfg = s.cfg := bytesDone_cfg pre s
    rw [hcfg] at hmailbox
    simp only [hemit]
    exact ⟨emitFrame_syState id _, hmailbox⟩
  · have hrun := preamble1_syState n h1
    rw [bytesDone_concat]
    split at hrun
    next hodd =>
      have hcol := congrArg State.syState (byteDoneOp_wp2_hit hrun)
      exact iff_of_true hcol hodd
    next heven =>
      have hwp1 : byteDoneOp 0x54#8 _ = _ := byteDoneOp_wp1_miss (b := 0x54#8) hrun (by decide)
      refine iff_of_false (fun hcol => ?_) heven
      have hcol' := (congrArg State.syState hwp1).symm.trans hcol
      exact absurd (hrun.symm.trans hcol') (by decide)

/-! ## A payload that is cut, and what fills it (R266) -/

section

variable {s : State}

/-- Fewer than eight bytes hold no whole frame, so from WP1 they leave the mailbox (R173). -/
theorem bytesDone_short_mailbox (h1 : s.syState = .wp1) {bs : List Byte} (hlen : bs.length < 8) :
    (bytesDone bs s).mbReady = s.mbReady ∧ (bytesDone bs s).mbSlot = s.mbSlot := by
  induction bs using List.reverseRecOn with
  | nil => exact ⟨rfl, rfl⟩
  | append_singleton bs b ih =>
    rw [List.length_append, List.length_singleton] at hlen
    obtain ⟨hready, hslot⟩ := ih (by omega)
    by_cases hsame : (bytesDone (bs ++ [b]) s).mbReady = (bytesDone bs s).mbReady ∧
        (bytesDone (bs ++ [b]) s).mbSlot = (bytesDone bs s).mbSlot
    · exact ⟨hsame.1.trans hready, hsame.2.trans hslot⟩
    · obtain ⟨pre, six, hbs, hsix, -, -⟩ := mailbox_changed h1 bs b hsame
      have := congrArg List.length hbs
      simp only [List.length_append, List.length_cons, List.length_nil] at this
      omega

theorem eq_collecting (hcol : s.syState = .col) : s = collecting s.plIdx.val s.pl s := by
  have hidx : Fin.ofNat 6 s.plIdx.val = s.plIdx := Fin.ext (Nat.mod_eq_of_lt s.plIdx.isLt)
  rw [collecting, hidx, ← hcol]

theorem bytesDone_cut (bs : List Byte) (hcol : s.syState = .col) (hlen : s.plIdx.val + bs.length < 6) :
    (bytesDone bs s).syState = .col ∧ (bytesDone bs s).plIdx.val = s.plIdx.val + bs.length ∧
      (bytesDone bs s).mbReady = s.mbReady ∧ (bytesDone bs s).mbSlot = s.mbSlot := by
  have hbytes : bytesDone bs s = collecting (s.plIdx.val + bs.length) (storedFrom s.plIdx.val s.pl bs) s := by
    rw [← bytesDone_collecting bs s.pl s (by omega), ← eq_collecting hcol]
  rw [hbytes]
  exact ⟨rfl, Nat.mod_eq_of_lt hlen, rfl, rfl⟩

/-- The bytes that fill a payload end in the emission of what it then holds. -/
theorem bytesDone_fills {bs : List Byte} {filled : Ident} (hcol : s.syState = .col) (hlen : s.plIdx.val + bs.length = 6)
    (hid : ∀ j : Fin 6, some (filled.extractLsb' (8 * j.val) 8) =
      if j.val < s.plIdx.val then some s.pl[j.val] else bs[j.val - s.plIdx.val]?) :
    ∃ pl, bytesDone bs s = emitFrame filled (collected pl s) := by
  have hidx := s.plIdx.isLt
  obtain rfl | ⟨front, b, rfl⟩ := bs.eq_nil_or_concat'
  · rw [List.length_nil] at hlen
    omega
  · have hstored (j : Fin 6) := storedFrom_getElem (front ++ [b]) s.pl (k := s.plIdx.val) j.isLt (by omega)
    rw [List.length_append, List.length_singleton] at hlen
    have hfive : s.plIdx.val + front.length = 5 := by omega
    have hset : (storedFrom s.plIdx.val s.pl front).set 5 b = storedFrom s.plIdx.val s.pl (front ++ [b]) := by
      rw [storedFrom_concat, hfive]
      grind
    have hfilled : filled = payloadIdent (storedFrom s.plIdx.val s.pl front) b := by
      refine eq_payloadIdent fun j => Option.some.inj ?_
      rw [hid j, ← hstored j, hset]
    have hfront : bytesDone front s = collecting 5 (storedFrom s.plIdx.val s.pl front) s := by
      rw [← hfive, ← bytesDone_collecting front s.pl s (by omega), ← eq_collecting hcol]
    rw [bytesDone_concat, hfront, byteDoneOp_collecting_last, ← hfilled]
    exact ⟨_, rfl⟩

/-- A whole frame that arrives while a payload is under way fills it from its first bytes; the rest of it delivers nothing. -/
theorem rxFrame_fills {id filled : Ident} (hen : s.rxEn = true) (hidle : s.rxBusy = false) (hcol : s.syState = .col)
    (hid : ∀ j : Fin 6, some (filled.extractLsb' (8 * j.val) 8) =
      if j.val < s.plIdx.val then some s.pl[j.val] else ((frameBytes id).toList.take 6)[j.val - s.plIdx.val]?) :
    ∃ pl, (rxFrame id s).mbReady = (emitFrame filled (collected pl s)).mbReady ∧
      (rxFrame id s).mbSlot = (emitFrame filled (collected pl s)).mbSlot := by
  have hidx := s.plIdx.isLt
  have hframe : (frameBytes id).toList.length = 8 := by simp
  have htake : ((frameBytes id).toList.take (6 - s.plIdx.val)).length = 6 - s.plIdx.val := by
    rw [List.length_take, hframe]
    omega
  obtain ⟨pl, hfills⟩ := bytesDone_fills (bs := (frameBytes id).toList.take (6 - s.plIdx.val)) (filled := filled) hcol (by omega)
    (fun j => by
      rw [hid j]
      split
      next => rfl
      next =>
        have hj := j.isLt
        rw [List.getElem?_take_of_lt (by omega), List.getElem?_take_of_lt (by omega)])
  have hwp1 : (emitFrame filled (collected pl s)).syState = .wp1 := emitFrame_syState _ _
  have hrest := bytesDone_short_mailbox (bs := (frameBytes id).toList.drop (6 - s.plIdx.val)) hwp1
    (by rw [List.length_drop, hframe]; omega)
  rw [← hfills, ← bytesDone_append, List.take_append_drop, hfills] at hrest
  have hchars : rxFrame id s = (bytesDone (frameBytes id).toList s).received (identByte id 5) :=
    foldl_rxChar_idle [Config.preamble1, Config.preamble2, identByte id 0, identByte id 1, identByte id 2, identByte id 3,
      identByte id 4] (identByte id 5) hen hidle
  rw [hchars]
  exact ⟨pl, hrest⟩

end

/-- Settles O39. -/
theorem truncatedFramePoisonsTheNext : Obligations.TruncatedFramePoisonsTheNext := by
  refine ⟨fun s bs hcol hlen => bytesDone_cut bs hcol hlen, fun s bs filled hcol hlen hid => ?_,
    fun s t id filled hen hidle hcol hid h => ?_⟩
  · obtain ⟨pl, hfills⟩ := bytesDone_fills hcol hlen hid
    rw [hfills]
    exact ⟨emitFrame_syState _ _, emitFrame_mailbox filled (collected pl s)⟩
  · obtain rfl : rxFrame id s = t := Host.Outcome.next.inj h
    obtain ⟨pl, hready, hslot⟩ := rxFrame_fills hen hidle hcol hid
    rw [hready, hslot]
    exact emitFrame_mailbox filled (collected pl s)

/-! ## Characters and frames as RX_TICKs (R100) -/

theorem frameSlots_eq_map (id : Ident) :
    frameSlots id = (List.range 80).map fun n => slotBit ((frameBytes id).toList.getD (n / 10) 0#8) (n % 10) :=
  (frameSlots_eq id).trans (map_slotBit_range (frameBytes id).toList).symm

/-- Settles O34: both macros are their slots' ticks in every state; from Idle a character is its byte. -/
theorem charHandsOverItsByte : Obligations.CharHandsOverItsByte := by
  refine ⟨fun s b => ?_, fun s id => ?_, fun s b hen hidle => ?_⟩
  · have hticks := runAll_rxTicks (charSlots b) s
    rw [charSlots, List.map_map] at hticks
    exact hticks.symm
  · have hticks := runAll_rxTicks (frameSlots id) s
    rw [← rxFrame_eq_rxLevels, frameSlots_eq_map, List.map_map] at hticks
    exact hticks.symm
  · refine ⟨_, exec_byteDone (s := { s with rxBusy := true, rxIdx := 8, rxByte := b }) rfl rfl, ?_⟩
    have hhanded : rxChar b s = (byteDoneOp b { s with rxBusy := true, rxIdx := 8, rxByte := b }).idle := by
      rw [← byteDoneOp_idle, rxChar_idle b hen hidle, ← byteDoneOp_received]
      rfl
    exact congrArg Host.Outcome.next hhanded

/-- Settles O35: the frame's bytes end in the emission of its identity, which is foreign. -/
theorem frameIsDelivered : Obligations.FrameIsDelivered := by
  intro s id hen hidle h1 hid
  have hdelivered : rxFrame id s = State.received (identByte id 5)
      { collected (identBytes id) s with mbSlot := id, mbReady := true } := by
    rw [rxFrame_idle id hen hidle h1, emitFrame_foreign (s := collected (identBytes id) s) hid]
  refine congrArg Host.Outcome.next (hdelivered.trans ?_)
  simp only [State.received, collected, hidle, h1]
  rfl

end Sys2Proof.Machine
end

section
/-! PROOFS. Transmissions tick by tick (41_tx_encoder.md R134, R139; 44_self_filter.md R192). The ticks write only the position, the
envelope and `tx_busy`; so the state after all 81 is known from the slots driven. The receive path and the transmitter have no
element in common, so a loopback is the frame received and the transmission, one beside the other. -/

namespace Sys2Proof.Machine

section

variable {s t : State} {id : Ident}

/-- `s` with the transmitter's sequencing elements of `u`. -/
def State.withTx (s u : State) : State :=
  { s with txBusy := u.txBusy, txByte := u.txByte, txBit := u.txBit, txEnv := u.txEnv }

/-- A TX_TICK writes only those (R133, R233). -/
theorem txTickOp_eq_withTx (s : State) : txTickOp s = s.withTx (txTickOp s) := by
  rcases txTickOp_cases s with ⟨-, h⟩ | ⟨-, -, h⟩ | ⟨-, h8, h⟩ <;> rw [h]
  · rfl
  · rfl
  · rcases driveSlot_cases (slotHere s h8) s h8 with ⟨_, hd⟩ | ⟨-, hd⟩ <;> rw [hd] <;> rfl

theorem txTicks_eq_withTx (n : Nat) (s : State) : txTicks n s = s.withTx (txTicks n s) := by
  induction n generalizing s with
  | zero => rfl
  | succ n ih =>
    calc txTicks (n + 1) s
        = (txTickOp s).withTx (txTicks (n + 1) s) := ih (txTickOp s)
      _ = (s.withTx (txTickOp s)).withTx (txTicks (n + 1) s) := by rw [← txTickOp_eq_withTx]
      _ = s.withTx (txTicks (n + 1) s) := rfl

theorem txTicks_succ' (n : Nat) (s : State) : txTicks (n + 1) s = txTickOp (txTicks n s) := by
  induction n generalizing s with
  | zero => rfl
  | succ n ih => exact ih (txTickOp s)

theorem txTicks_drivenSlots {k : Nat} (h : DrivenSlots id 0 s) (hk : k ≤ 80) : DrivenSlots id k (txTicks k s) := by
  induction k with
  | zero => exact h
  | succ k ih =>
    rw [txTicks_succ']
    exact txTickOp_drivenSlots (ih (by omega)) hk

/-- The eightieth slot leaves the position at (8, 0). -/
theorem DrivenSlots.at_end (h : DrivenSlots id 80 s) : s.txByte = 8 ∧ s.txBit = 0 := by
  have hpos := h.position
  have hbyte := s.txByte.isLt
  have hbit := s.txBit.isLt
  exact ⟨Fin.ext (show s.txByte.val = 8 by omega), Fin.ext (show s.txBit.val = 0 by omega)⟩

theorem txTicks_81 (h : DrivenSlots id 0 s) :
    txTicks 81 s = { s with txEnv := false, txBusy := false, txByte := 8, txBit := 0 } := by
  have h80 := txTicks_drivenSlots h (Nat.le_refl 80)
  obtain ⟨hbyte, hbit⟩ := h80.at_end
  have hend : txTicks 81 s = { txTicks 80 s with txEnv := false, txBusy := false } := by
    rw [txTicks_succ']
    exact txTickOp_end h80.busy (by rw [hbyte]; rfl)
  rw [hend, txTicks_eq_withTx 80 s]
  simp only [State.withTx, hbyte, hbit]

/-! ## From an accepted SEND -/

/-- A transmission with the envelope off: where its first tick overwrites it, what it was does not matter (R131, R133). -/
def State.envOff (s : State) : State := { s with txEnv := false }

theorem txTickOp_envOff (hbusy : s.txBusy = true) (h8 : s.txByte.val < 8) : txTickOp s.envOff = txTickOp s := by
  rw [txTickOp_drive hbusy h8, txTickOp_drive (s := s.envOff) hbusy h8]
  rfl

theorem txTicks_envOff {n : Nat} (hbusy : s.txBusy = true) (h8 : s.txByte.val < 8) : txTicks (n + 1) s.envOff = txTicks (n + 1) s :=
  congrArg (txTicks n) (txTickOp_envOff hbusy h8)

theorem acceptSend_envOff_drivenSlots (id : Ident) (s : State) : DrivenSlots id 0 (acceptSend id s).envOff where
  busy := rfl
  frame := rfl
  position := rfl
  envelope := rfl

/-- After tick `n + 1` of a transmission slot `n` is on the envelope (R134). -/
theorem acceptSend_ticks (id : Ident) (s : State) {n : Nat} (hn : n < 80) :
    DrivenSlots id (n + 1) (txTicks (n + 1) (acceptSend id s)) := by
  rw [← txTicks_envOff (s := acceptSend id s) rfl (Nat.succ_pos 7)]
  exact txTicks_drivenSlots (acceptSend_envOff_drivenSlots id s) hn

theorem acceptSend_txRun (id : Ident) (s : State) :
    txTicks 81 (acceptSend id s) = { acceptSend id s with txEnv := false, txBusy := false, txByte := 8, txBit := 0 } := by
  rw [← txTicks_envOff (s := acceptSend id s) rfl (Nat.succ_pos 7), txTicks_81 (acceptSend_envOff_drivenSlots id s)]
  rfl

/-- An accepted IVL in closed form (R139). -/
theorem exec_ivl_accepted (id : Ident) (hen : s.txEn = true) (hidle : s.txBusy = false) :
    exec (.ivl id) s =
      .next { acceptSend id s with txEnv := false, txBusy := false, txByte := 8, txBit := 0 } := by
  have hopen : (s.txEn && !s.txBusy) = true := by simp [hen, hidle]
  have hreplay : exec (.ivl id) s = .next (replayIntervals (intervals id) (acceptSend id s)) :=
    congrArg Host.Outcome.next (if_pos hopen)
  rw [hreplay, replayIntervals_eq _ _ (by simp)]

end

/-- Settles O43: both backends leave the same closed form. -/
theorem replayEqualsTicks : Obligations.ReplayEqualsTicks := by
  intro s id hen hidle
  have hivl := exec_ivl_accepted id hen hidle
  refine ⟨?_, acceptSend id s, execSend_accepted id hen hidle, ?_⟩
  · rw [hivl, acceptSend_eq]
    simp only [hidle]
  · rw [hivl, txRun, acceptSend_txRun]

/-! ## The device hears itself (R192) -/

section

variable {s : State}

/-- `s` with the receive path of `u`. -/
def State.withRx (s u : State) : State :=
  { s with
    rxBusy := u.rxBusy, rxIdx := u.rxIdx, rxByte := u.rxByte, syState := u.syState, plIdx := u.plIdx, pl := u.pl
    mbReady := u.mbReady, mbSlot := u.mbSlot }

/-- An RX_TICK writes only that (R152, R233). -/
theorem rxTickOp_eq_withRx (level : Bool) (s : State) : rxTickOp level s = s.withRx (rxTickOp level s) := by
  obtain ⟨h1, h2, h3, h4, h5, h6, h7, h8, h9⟩ := rxTickOp_sameTx level s
  obtain ⟨k1, k2, k3, k4, k5⟩ := rxTickOp_sameRest level s
  obtain ⟨j1, j2, j3, j4⟩ := rxTickOp_clock level s
  simp only [State.withRx, ← h1, ← h2, ← h3, ← h4, ← h5, ← h6, ← h7, ← h8, ← h9, ← k1, ← k2, ← k3, ← k4, ← k5, ← j1, ← j2, ← j3,
    ← j4]

/-- A TX_TICK does not read the receive path. -/
theorem txTickOp_withRx (u s : State) : txTickOp (s.withRx u) = (txTickOp s).withRx u := by
  simp only [txTickOp, driveSlot, apply_ite (State.withRx · u), apply_dite (State.withRx · u)]
  rfl

theorem emitFrame_withTx (u : State) (id : Ident) (s : State) : emitFrame id (s.withTx u) = (emitFrame id s).withTx u := by
  simp only [emitFrame, apply_ite (State.withTx · u)]
  rfl

theorem byteDoneOp_withTx (u : State) (b : Byte) (s : State) : byteDoneOp b (s.withTx u) = (byteDoneOp b s).withTx u := by
  have hsy : (s.withTx u).syState = s.syState := rfl
  unfold byteDoneOp
  rw [hsy]
  cases s.syState with
  | wp1 | wp2 =>
    simp only [apply_ite (State.withTx · u)]
    rfl
  | col =>
    simp only [apply_dite (State.withTx · u), ← emitFrame_withTx]
    rfl

/-- An RX_TICK does not read the transmitter. -/
theorem rxTickOp_withTx (u : State) (level : Bool) (s : State) : rxTickOp level (s.withTx u) = (rxTickOp level s).withTx u := by
  simp only [rxTickOp, stopChar, apply_ite (State.withTx · u), apply_dite (State.withTx · u), ← byteDoneOp_withTx]
  rfl

/-- The ticks of the two roles commute. -/
theorem txTickOp_rxTickOp (level : Bool) (s : State) : txTickOp (rxTickOp level s) = rxTickOp level (txTickOp s) :=
  calc txTickOp (rxTickOp level s)
      = txTickOp (s.withRx (rxTickOp level s)) := congrArg txTickOp (rxTickOp_eq_withRx level s)
    _ = (txTickOp s).withRx (rxTickOp level s) := txTickOp_withRx _ s
    _ = (s.withTx (txTickOp s)).withRx (rxTickOp level s) := congrArg (State.withRx · _) (txTickOp_eq_withTx s)
    _ = (s.withRx (rxTickOp level s)).withTx (txTickOp s) := rfl
    _ = (rxTickOp level s).withTx (txTickOp s) := congrArg (State.withTx · _) (rxTickOp_eq_withRx level s).symm
    _ = rxTickOp level (s.withTx (txTickOp s)) := (rxTickOp_withTx _ level s).symm
    _ = rxTickOp level (txTickOp s) := congrArg (rxTickOp level) (txTickOp_eq_withTx s).symm

theorem txTicks_rxTickOp (n : Nat) (level : Bool) (s : State) : txTicks n (rxTickOp level s) = rxTickOp level (txTicks n s) := by
  induction n generalizing s with
  | zero => rfl
  | succ n ih => exact (congrArg (txTicks n) (txTickOp_rxTickOp level s)).trans (ih (txTickOp s))

/-- What the receiver hears in `n` rounds of LOOP_RUN: the complement of the envelope after each tick (R100). -/
def heard (n : Nat) (s : State) : List Bool := (List.range n).map fun k => !(txTicks (k + 1) s).txEnv

theorem heard_succ (n : Nat) (s : State) : heard (n + 1) s = (!(txTickOp s).txEnv) :: heard n (txTickOp s) := by
  simp only [heard, List.range_succ_eq_map, List.map_cons, List.map_map]
  rfl

theorem heard_rxTickOp (n : Nat) (level : Bool) (s : State) : heard n (rxTickOp level s) = heard n s := by
  simp only [heard, txTicks_rxTickOp, (rxTickOp_sameTx level _).txEnv]

theorem rxLevels_concat (ls : List Bool) (l : Bool) (s : State) : rxLevels (ls ++ [l]) s = rxTickOp l (rxLevels ls s) :=
  List.foldl_concat (fun t l => rxTickOp l t) s l ls

/-- Rounds of LOOP_RUN during a transmission are its ticks, and the levels heard received. -/
theorem loopRounds_eq {n : Nat} (hbusy : ∀ k < n, (txTicks k s).txBusy = true) :
    loopRounds n s = rxLevels (heard n s) (txTicks n s) := by
  induction n generalizing s with
  | zero => rfl
  | succ n ih =>
    have hnext : ∀ k < n, (txTicks k (rxTickOp (!(txTickOp s).txEnv) (txTickOp s))).txBusy = true := fun k hk => by
      rw [txTicks_rxTickOp, (rxTickOp_sameTx _ _).txBusy]
      exact hbusy (k + 1) (by omega)
    calc loopRounds (n + 1) s
        = loopRounds n (rxTickOp (!(txTickOp s).txEnv) (txTickOp s)) := if_pos (hbusy 0 n.succ_pos)
      _ = rxLevels (heard n (txTickOp s)) (rxTickOp (!(txTickOp s).txEnv) (txTicks n (txTickOp s))) := by
        rw [ih hnext, heard_rxTickOp, txTicks_rxTickOp]
      _ = rxLevels (heard (n + 1) s) (txTicks (n + 1) s) := by
        rw [heard_succ]
        rfl

theorem acceptSend_ticks_busy (id : Ident) (s : State) {k : Nat} (hk : k < 81) :
    (txTicks k (acceptSend id s)).txBusy = true := by
  cases k with
  | zero => rfl
  | succ k => exact (acceptSend_ticks id s (by omega)).busy

/-- The slots of the frame, and the tick after the last one. -/
theorem heard_acceptSend (id : Ident) (s : State) : heard 81 (acceptSend id s) = frameSlots id ++ [true] := by
  have hslots : heard 80 (acceptSend id s) = frameSlots id := by
    refine List.ext_getElem? fun n => ?_
    by_cases hn : n < 80
    · have henv : some (txTicks (n + 1) (acceptSend id s)).txEnv = (frameEnv id)[n]? := (acceptSend_ticks id s hn).envelope
      simp only [heard, frameSlots, List.getElem?_map, List.getElem?_range hn, ← henv, Option.map_some]
    · rw [List.getElem?_eq_none (by simpa [heard] using hn), List.getElem?_eq_none (by simpa [frameSlots_length] using hn)]
  have hlast : (!(txTicks 81 (acceptSend id s)).txEnv) = true := by rw [acceptSend_txRun]; rfl
  rw [← hslots, ← hlast]
  simp only [heard, List.range_succ, List.map_append]
  rfl

end

/-- Settles O45: a loopback is the transmission, and the frame received by a device that is in WP1 and Idle. -/
theorem loopbackIsSuppressed : Obligations.LoopbackIsSuppressed := by
  intro s t hrx hidle h1 htx hbusy ht
  obtain rfl : acceptSend s.cfg.localId s = t := Host.Outcome.next.inj ((execSend_accepted _ htx hbusy).symm.trans ht)
  let u : State := { acceptSend s.cfg.localId s with txEnv := false, txBusy := false, txByte := 8, txBit := 0 }
  have hloop : loopRun (acceptSend s.cfg.localId s) =
      (collected (identBytes s.cfg.localId) u).received (identByte s.cfg.localId 5) := by
    calc loopRun (acceptSend s.cfg.localId s)
        = rxLevels (frameSlots s.cfg.localId ++ [true]) u := by
          rw [loopRun, loopRounds_eq fun k hk => acceptSend_ticks_busy _ s hk, heard_acceptSend, acceptSend_txRun]
      _ = rxTickOp true (rxFrame s.cfg.localId u) := by rw [rxLevels_concat, rxFrame_eq_rxLevels]
      _ = rxTickOp true ((collected (identBytes s.cfg.localId) u).received (identByte s.cfg.localId 5)) :=
          congrArg (rxTickOp true) (rxFrame_localId (s := u) hrx hidle h1)
      _ = _ := rxTickOp_high rfl
  rw [hloop]
  exact ⟨rfl, rfl, rfl, rfl, rfl, rfl⟩

end Sys2Proof.Machine
end

section
/-! PROOFS. A run, step by step (40_bitclock.md R119). A step without RESET leaves a transmission under way at its slot, or, where
it performs a TX_TICK, takes it one slot further; so the slots count the ticks. Among edges alone, the counter of a clock that
keeps running comes to its last value again and again. -/

namespace Sys2Proof.Machine

/-! ## The rows that are no part of a transmission -/

/-- Neither TX_TICK, its sub-cases and BC_CLK, nor RESET. -/
def leavesTransmission (i : Instr) : Bool := !transmits i && i != .reset

theorem leavesTransmission_iff (i : Instr) : leavesTransmission i = true ↔ transmits i = false ∧ i ≠ .reset := by
  simp [leavesTransmission]

theorem decodeRxd_leavesTransmission : ∀ v : BitVec 6, (decodeRxd v).toOption.all leavesTransmission = true := by decide

theorem decodeHsdSend_leavesTransmission (v : BitVec 2) (id : Ident) :
    (decodeHsdSend v id).toOption.all leavesTransmission = true := by
  unfold decodeHsdSend
  split_ifs <;> rfl

theorem decodeHsdMbRead_leavesTransmission : ∀ v : BitVec 1, (decodeHsdMbRead v).toOption.all leavesTransmission = true := by
  decide

theorem decodeHsdInitRx_leavesTransmission : ∀ v : BitVec 3, (decodeHsdInitRx v).toOption.all leavesTransmission = true := by
  decide

theorem decodeHsdInitTx_leavesTransmission : ∀ v : BitVec 3, (decodeHsdInitTx v).toOption.all leavesTransmission = true := by
  decide

/-- Of the formats that an agent may bring only EV, `clk` and TXD name a row that writes a transmission under way. -/
theorem decode_leavesTransmission {c : Code} (hint : c.fmt.internal = false) (hev : c.fmt ≠ .ev) (hclk : c.fmt ≠ .clk)
    (htxd : c.fmt ≠ .txd) : (decode c).toOption.all leavesTransmission = true := by
  obtain ⟨fmt, bits⟩ := c
  cases fmt with
  | ev => exact absurd rfl hev
  | clk => exact absurd rfl hclk
  | txd => exact absurd rfl htxd
  | syd | hsdEmit | callBcStartRx | callBcStartTx | callBcStop | callByteDone | callFrameEmit | callMbWrite => cases hint
  | rxd => exact decodeRxd_leavesTransmission _
  | hsdSend => exact decodeHsdSend_leavesTransmission _ _
  | hsdMbRead => exact decodeHsdMbRead_leavesTransmission _
  | hsdInitRx => exact decodeHsdInitRx_leavesTransmission _
  | hsdInitTx => exact decodeHsdInitTx_leavesTransmission _
  | char | frame | ivl =>
    simp only [decode]
    split <;> rfl
  | id48 => rfl

/-! ## TXD as an entry: TX_TICK where the position's own row is named (R93) -/

theorem sameRow_iff (i : Instr) (y : Except Reject Instr) : sameRow (.ok i) y = true ↔ y = .ok i := by
  cases y with
  | error why => simp [sameRow]
  | ok j =>
    rw [sameRow, beq_iff_eq, Except.ok.injEq]
    exact eq_comm

/-- TXD, over every vector: the row of a slot below 10, or TX_TICK.end. -/
theorem decodeTxd_toOption : ∀ v : BitVec 8, (decodeTxd v).toOption =
    if (v.extractLsb' 4 4).toNat < 8 then (slotRows (v.extractLsb' 4 4))[(v.extractLsb' 0 4).toNat]?
    else if v = 0x80#8 then some .txTickEnd else none := by
  decide

theorem exec_txd {c : Code} {i : Instr} (hfmt : c.fmt = .txd) (hi : decode c = .ok i) (s : State) :
    exec i s = .next
      (onlyIf (sameRow (decode c) (decode ⟨.txd, (txdVector s).setWidth 80⟩)) (txTickOp s) s) := by
  have hvector := decode_txdVector s
  have hiff := sameRow_iff i (decode ⟨.txd, (txdVector s).setWidth 80⟩)
  rw [hi]
  cases hsame : sameRow (.ok i) (decode ⟨.txd, (txdVector s).setWidth 80⟩) with
  | true => exact (txTickIsItsSubcase s i (hiff.mp hsame)).symm
  | false =>
    have hother : (decode ⟨.txd, (txdVector s).setWidth 80⟩).toOption ≠ some i := fun h => by
      refine Bool.false_ne_true (hsame.symm.trans (hiff.mpr ?_))
      cases hd : decode ⟨.txd, (txdVector s).setWidth 80⟩ with
      | ok j => rw [hd] at h; exact congrArg Except.ok (Option.some.inj h)
      | error why => rw [hd] at h; cases h
    have hrow := decodeTxd_toOption (c.bits.extractLsb' 0 8)
    have hdecode : decode c = decodeTxd (c.bits.extractLsb' 0 8) := by simp only [decode, hfmt]
    rw [← hdecode, hi, Except.toOption] at hrow
    split at hrow
    next hy8 =>
      obtain ⟨hk, -⟩ := List.getElem?_eq_some_iff.mp hrow.symm
      refine exec_unselected (exec_slotRow (k := ⟨_, hk⟩) hrow.symm s) fun ⟨hy, _, hslot⟩ => absurd ?_ hother
      rw [hvector, if_pos (hy ▸ hy8), hy, BitVec.ofNat_toNat, BitVec.setWidth_eq, hslot, hrow]
    next =>
      split at hrow
      next =>
        cases hrow
        refine exec_unselected (exec_txTickEnd s) fun ⟨h8, h0⟩ => absurd ?_ hother
        rw [hvector, if_neg (by omega), if_pos h0]
      next => cases hrow

/-! ## One step of a transmission -/

section

variable {s t : State} {p : Nat} {c : Code}

/-- A transmission is under way and the next slot is number `p` (R133). -/
structure Transmitting (p : Nat) (s : State) : Prop where
  busy : s.txBusy = true
  position : 10 * s.txByte.val + s.txBit.val = p

theorem Transmitting.of_writes {ws : List Element} (h : Transmitting p s) (hw : Writes ws s t) (hbusy : .txBusy ∉ ws)
    (hposition : .txPosition ∉ ws) : Transmitting p t := by
  obtain ⟨hbyte, hbit⟩ := hw .txPosition hposition
  exact ⟨Eq.trans (hw .txBusy hbusy) h.busy, by rw [hbyte, hbit, h.position]⟩

/-- Of the positions past the last slot only (8, 0) is launchable (U7). -/
theorem Transmitting.le_of_launchable (h : Transmitting p s) (hl : launchable s = true) : p ≤ 80 := by
  obtain ⟨hend, -⟩ := (launchable_iff s).mp hl
  have hpos := h.position
  have hbyte := s.txByte.isLt
  have hbit := s.txBit.isLt
  omega

/-- What becomes of a transmission at slot `p`: a tick drives the slot, or ends it past the last one (R133, R134). -/
def Advances (tick : Bool) (p : Nat) (t : State) : Prop :=
  if tick then (if p < 80 then Transmitting (p + 1) t else t.txBusy = false) else Transmitting p t

theorem txTickOp_advances (h : Transmitting p s) : Advances true p (txTickOp s) := by
  have hpos := h.position
  have hbit := s.txBit.isLt
  rw [Advances, if_pos rfl]
  rcases txTickOp_cases s with ⟨hidle, -⟩ | ⟨-, hend, hop⟩ | ⟨-, h8, hop⟩
  · exact absurd (hidle.symm.trans h.busy) Bool.false_ne_true
  · rw [if_neg (by omega), hop]
  · rw [if_pos (by omega), hop]
    rcases driveSlot_cases (slotHere s h8) s h8 with ⟨_, hd⟩ | ⟨hlast, hd⟩ <;> rw [hd]
    · exact ⟨h.busy, congrArg (· + 1) hpos⟩
    · exact ⟨h.busy, show 10 * (s.txByte.val + 1) + 0 = p + 1 by omega⟩

theorem onlyIf_txTickOp_advances (tick : Bool) (h : Transmitting p s) : Advances tick p (onlyIf tick (txTickOp s) s) := by
  cases tick with
  | false => exact h
  | true => exact txTickOp_advances h

/-- Requests leave a transmission: a SEND among them is rejected (R137). -/
theorem hostStage_transmitting (bits : BitVec 80) (id : Ident) (h : Transmitting p s) : Transmitting p (hostStage bits id s) := by
  have hread := h.of_writes (readStage_writes bits s) (by decide) (by decide)
  have hsend : Writes [.sendResponse] (readStage bits s) (sendStage bits id (readStage bits s)) := Writes.onlyIf fun _ => by
    rw [sendOp_busy id hread.busy]
    exact respondSend_writes false _
  exact hread.of_writes (hsend.trans (initStages_write bits _)) (by decide) (by decide)

theorem tickStage_advances (rx level tx : Bool) (h : Transmitting p s) : Advances tx p (tickStage rx level tx s) :=
  onlyIf_txTickOp_advances tx (h.of_writes (rxStage_writes rx level s) (by decide) (by decide))

theorem Advances.shiftFree {tick : Bool} (level : Bool) (h : Advances tick p s) : Advances tick p (shiftFree level s) := by
  unfold Advances at h ⊢
  split_ifs at h ⊢
  · exact ⟨h.busy, h.position⟩
  · exact h
  · exact ⟨h.busy, h.position⟩

theorem runCode_ev (hfmt : c.fmt = .ev) (s : State) : runCode c s = runAll (evOps c.bits s) s := by simp only [runCode, hfmt]

theorem runCode_clk (hfmt : c.fmt = .clk) (s : State) : runCode c s = clkEdge c.bits s := by simp only [runCode, hfmt]

/-- An entry without RESET takes a transmission further exactly where it performs a TX_TICK. -/
theorem runCode_advances (h : Transmitting p s) (hr : resets c = false) (ht : runCode c s = .next t) :
    Advances (performsTxTick c s) p t := by
  have hbusy : txRuns s = true := h.busy
  cases hint : c.fmt.internal with
  | true =>
    rw [runCode_internal hint] at ht
    cases ht
  | false =>
    by_cases hev : c.fmt = .ev
    · have hrst : evRst c.bits = false := by simpa only [resets, hev] using hr
      rw [runCode_ev hev, runAll_evOps_stages hrst] at ht
      cases ht
      have htick : performsTxTick c s = (evTxTick c.bits && txRuns s) := by simp [performsTxTick, hev, hrst, hbusy]
      rw [htick]
      exact tickStage_advances _ _ _ (hostStage_transmitting _ _ h)
    by_cases hclk : c.fmt = .clk
    · have hrst : evRst c.bits = false := by simpa only [resets, hclk] using hr
      rw [runCode_clk hclk, clkEdge_stages hrst] at ht
      cases ht
      have htick : performsTxTick c s = txTickDue s := by simp [performsTxTick, hclk, hrst, hbusy]
      have hcount : Transmitting p (bcCount s) := ⟨h.busy, h.position⟩
      rw [htick]
      exact (tickStage_advances _ _ _ (hostStage_transmitting _ _ hcount)).shiftFree _
    rw [runCode_decoded hint hev hclk] at ht
    cases hi : decode c with
    | error why =>
      rw [runDecoded_error hi] at ht
      cases ht
    | ok i =>
      rw [runDecoded_ok hi] at ht
      by_cases htxd : c.fmt = .txd
      · rw [exec_txd htxd hi] at ht
        cases ht
        have htick : performsTxTick c s = sameRow (decode c) (decode ⟨.txd, (txdVector s).setWidth 80⟩) := by
          simp [performsTxTick, htxd, hbusy]
        rw [htick]
        exact onlyIf_txTickOp_advances _ h
      · have hleaves := decode_leavesTransmission hint hev hclk htxd
        rw [hi] at hleaves
        obtain ⟨htx, hreset⟩ := (leavesTransmission_iff i).mp hleaves
        have hsame := exec_keeps_transmission h.busy htx hreset ht
        have htick : performsTxTick c s = false := by
          unfold performsTxTick
          split <;> simp_all
        obtain ⟨hbyte, hbit⟩ := hsame .txPosition (by decide)
        rw [htick]
        exact ⟨Eq.trans (hsame .txBusy (by decide)) h.busy, by rw [hbyte, hbit, h.position]⟩

/-- RESET stops both clocks (R250). -/
theorem runCode_resets (hr : resets c = true) (ht : runCode c s = .next t) : t.txBusy = false ∧ t.rxEn = false := by
  unfold resets at hr
  split at hr
  next hev =>
    rw [runCode_ev hev, evOps_reset hr] at ht
    cases ht
    exact ⟨rfl, rfl⟩
  next hclk =>
    rw [runCode_clk hclk, clkEdge_rst _ _ hr] at ht
    cases ht
    exact ⟨rfl, rfl⟩
  next => cases hr

end

/-! ## Runs -/

section

variable {r : Run} {n k p : Nat}

theorem Run.launchable (r : Run) (n : Nat) : launchable (r.state n) = true :=
  launchable_of_step (s := { r.state n with trace := [r.entry n] }) (r.moves n)

theorem Run.runCode (r : Run) (n : Nat) : runCode (r.entry n) (fetched [] (r.state n)) = .next (r.state (n + 1)) :=
  (step_eq_runCode (launchable_of_step (r.moves n)) rfl).symm.trans (r.moves n)

theorem Run.advances (h : Transmitting p (r.state n)) (hr : resets (r.entry n) = false) :
    Advances (performsTxTick (r.entry n) (r.state n)) p (r.state (n + 1)) :=
  runCode_advances (s := fetched [] (r.state n)) ⟨h.busy, h.position⟩ hr (r.runCode n)

/-- A step after which a clock still runs is no RESET. -/
theorem Run.not_resets (hruns : (r.state (n + 1)).txBusy = true ∨ (r.state (n + 1)).rxEn = true) : resets (r.entry n) = false := by
  refine Bool.eq_false_iff.mpr fun hr => ?_
  obtain ⟨hidle, hdis⟩ := runCode_resets hr (r.runCode n)
  simp [hidle, hdis] at hruns

theorem txTicksIn_succ (r : Run) (n k : Nat) :
    txTicksIn r n (k + 1) = txTicksIn r n k + (performsTxTick (r.entry (n + k)) (r.state (n + k))).toNat := by
  rw [txTicksIn, List.range_succ, List.filter_append, List.length_append]
  cases h : performsTxTick (r.entry (n + k)) (r.state (n + k)) <;> simp [txTicksIn, h]

/-- While a transmission stays under way it is as many slots further as ticks were performed. -/
theorem Run.transmitting (h : Transmitting p (r.state n)) (hrun : ∀ j ≤ k, (r.state (n + j)).txBusy = true) :
    Transmitting (p + txTicksIn r n k) (r.state (n + k)) := by
  induction k with
  | zero => exact h
  | succ k ih =>
    have hnow := ih fun j hj => hrun j (by omega)
    have hbusy : (r.state (n + k + 1)).txBusy = true := hrun (k + 1) (Nat.le_refl _)
    have hadv := Run.advances hnow (Run.not_resets (.inl hbusy))
    rw [txTicksIn_succ]
    cases htick : performsTxTick (r.entry (n + k)) (r.state (n + k)) with
    | false =>
      rw [htick] at hadv
      exact hadv
    | true =>
      rw [htick, Advances, if_pos rfl] at hadv
      split at hadv
      next => exact hadv
      next => exact absurd (hadv.symm.trans hbusy) Bool.false_ne_true

end

/-! ## Fair clocks end every transmission -/

section

variable {r : Run} {n : Nat}

/-- A transmission that never ended would drive as many slots as one likes. -/
theorem Run.reaches_slot (hfair : FairClocks r) (hbusy : ∀ m, n ≤ m → (r.state m).txBusy = true) (q : Nat) :
    ∃ m p, n ≤ m ∧ q ≤ p ∧ Transmitting p (r.state m) := by
  induction q with
  | zero => exact ⟨n, _, Nat.le_refl n, Nat.zero_le _, hbusy n (Nat.le_refl n), rfl⟩
  | succ q ih =>
    obtain ⟨m, p, hm, hp, hnow⟩ := ih
    obtain ⟨m', hm', htick⟩ := hfair.tx m fun l hl => hbusy l (hm.trans hl)
    obtain ⟨k, rfl⟩ := Nat.exists_eq_add_of_le hm'
    have hnext := Run.transmitting (k := k + 1) hnow fun j _ => hbusy (m + j) (by omega)
    rw [txTicksIn_succ, htick] at hnext
    exact ⟨_, _, by omega, by simp only [Bool.toNat_true]; omega, hnext⟩

theorem Run.ends_of_fair (hfair : FairClocks r) (n : Nat) : ∃ m, n ≤ m ∧ (r.state m).txBusy = false := by
  by_contra hnever
  have hbusy : ∀ m, n ≤ m → (r.state m).txBusy = true := fun m hm =>
    Bool.eq_true_of_not_eq_false fun hidle => hnever ⟨m, hm, hidle⟩
  obtain ⟨m, p, -, hp, hnow⟩ := Run.reaches_slot hfair hbusy 81
  have hle := hnow.le_of_launchable (r.launchable m)
  omega

end

/-- Settles O41: the slots as they are driven; fairness as a bound on the slots; and the ticks counted by the slots, of which the
last is TX_TICK.end. -/
theorem transmissionIsEightyOneTicks : Obligations.TransmissionIsEightyOneTicks := by
  refine ⟨fun s t id hen hidle ht => ?_, fun r hfair n => Run.ends_of_fair hfair n, fun r n k hbyte hbit hrun hend hk => ?_⟩
  · obtain rfl : acceptSend id s = t := Host.Outcome.next.inj ((execSend_accepted id hen hidle).symm.trans ht)
    refine ⟨fun n hn => ?_, acceptSend_txRun id s⟩
    have h := acceptSend_ticks id s hn
    exact ⟨h.envelope, h.busy⟩
  · obtain ⟨k, rfl⟩ := Nat.exists_eq_add_of_le' hk
    obtain ⟨hbusy, -⟩ := hrun 0 hk
    have hstart : Transmitting 0 (r.state n) := ⟨hbusy, by rw [hbyte, hbit]; rfl⟩
    have hnow := Run.transmitting (k := k) hstart fun j hj => (hrun j (by omega)).1
    have hle := hnow.le_of_launchable (r.launchable _)
    obtain ⟨-, hr⟩ := hrun k (by omega)
    have hadv := Run.advances hnow hr
    rw [Advances] at hadv
    split at hadv
    next htick =>
      split at hadv
      next => exact absurd (hend.symm.trans hadv.busy) Bool.false_ne_true
      next => rw [txTicksIn_succ, htick, Bool.toNat_true]; omega
    next => exact absurd (hend.symm.trans hadv.busy) Bool.false_ne_true

end Sys2Proof.Machine
end

section
/-! PROOFS. Runs of edges (60_exceptions.md R226; 40_bitclock.md R115, R119): each edge has a next state, and a clock that runs for
ever is due within BIT_DIV edges, however the agents act. -/

namespace Sys2Proof.Machine

/-- Every list of edges runs to its end (R226). -/
theorem afterEdges_total {s : State} (es : List (BitVec 80)) (hs : s.Inv) : ∃ t, AfterEdges s es t ∧ t.Inv := by
  induction es generalizing s with
  | nil => exact ⟨_, (afterEdges_nil s _).mpr rfl, { hs with }⟩
  | cons e es ih =>
    obtain ⟨u, hu, hinv⟩ := clkEdge_keeps_inv e (fetched_keeps_inv (edgeTrace es) hs)
    obtain ⟨t, ht, htinv⟩ := ih hinv
    exact ⟨t, (afterEdges_cons t e es hs.launchable).mpr ⟨u, hu, ht⟩, htinv⟩

section

variable {r : Run} {n : Nat} {runs : State → Bool} {cnt : State → Nat}

/-- An endless run of edges, from a state of the invariant. -/
structure Run.OnlyEdges (r : Run) : Prop where
  start : (r.state 0).Inv
  edges : ∀ n, (r.entry n).fmt = .clk

theorem Run.OnlyEdges.clkEdge (h : r.OnlyEdges) (n : Nat) :
    clkEdge (r.entry n).bits (fetched [] (r.state n)) = .next (r.state (n + 1)) :=
  (runCode_clk (h.edges n) _).symm.trans (r.runCode n)

theorem Run.OnlyEdges.inv (h : r.OnlyEdges) (n : Nat) : (r.state n).Inv := by
  induction n with
  | zero => exact h.start
  | succ n ih => exact runCode_keeps_inv _ (fetched_keeps_inv [] ih) (r.runCode n)

/-- The counter of a clock that runs from step `n` on, `j` edges later (R114). -/
theorem Run.OnlyEdges.count (h : r.OnlyEdges) (clock : IsBitClock runs cnt) (hrun : ∀ m, n ≤ m → runs (r.state m) = true)
    (hreset : ∀ m, n ≤ m → evRst (r.entry m).bits = false) (j : Nat) :
    (r.state (n + j)).cfg = (r.state n).cfg ∧ cnt (r.state (n + j)) = (cnt (r.state n) + j) % (r.state n).cfg.bitDiv := by
  induction j with
  | zero => exact ⟨rfl, (Nat.mod_eq_of_lt (clock.range (h.inv n))).symm⟩
  | succ j ih =>
    obtain ⟨hcfg, hcnt⟩ := ih
    obtain ⟨hcfg', -, -⟩ := clkEdge_keeps (h.clkEdge (n + j))
    refine ⟨hcfg'.trans hcfg, ?_⟩
    calc cnt (r.state (n + j + 1))
        = (cnt (r.state (n + j)) + 1) % (r.state (n + j)).cfg.bitDiv :=
          clock.edge (h.inv _) (hreset _ (by omega)) (hrun _ (by omega)) (h.clkEdge (n + j))
      _ = (cnt (r.state n) + (j + 1)) % (r.state n).cfg.bitDiv := by rw [hcnt, hcfg, Nat.mod_add_mod, Nat.add_assoc]

/-- It comes to its last value (R115). -/
theorem Run.OnlyEdges.count_last (h : r.OnlyEdges) (clock : IsBitClock runs cnt)
    (hrun : ∀ m, n ≤ m → runs (r.state m) = true) (hreset : ∀ m, n ≤ m → evRst (r.entry m).bits = false) :
    ∃ m, n ≤ m ∧ cnt (r.state m) = (r.state m).cfg.bitDivPred := by
  have hrange : cnt (r.state n) < (r.state n).cfg.bitDivPred + 1 := clock.range (h.inv n)
  obtain ⟨j, hj⟩ := Nat.exists_eq_add_of_le (Nat.le_of_lt_succ hrange)
  obtain ⟨hcfg, hcnt⟩ := h.count clock hrun hreset j
  refine ⟨n + j, Nat.le_add_right n j, ?_⟩
  rw [hcnt, hcfg, ← hj]
  exact Nat.mod_eq_of_lt (Nat.lt_succ_self _)

/-- A clock that runs after an edge was not reset by it. -/
theorem Run.OnlyEdges.not_rst (h : r.OnlyEdges) (hruns : (r.state (n + 1)).txBusy = true ∨ (r.state (n + 1)).rxEn = true) :
    evRst (r.entry n).bits = false := by
  have hreset := Run.not_resets hruns
  simpa only [resets, h.edges n] using hreset

theorem Run.OnlyEdges.fair (h : r.OnlyEdges) : FairClocks r where
  tx n hbusy := by
    have hreset : ∀ m, n ≤ m → evRst (r.entry m).bits = false := fun m hm => h.not_rst (.inl (hbusy (m + 1) (by omega)))
    obtain ⟨m, hm, hlast⟩ := h.count_last txBitClock hbusy hreset
    exact ⟨m, hm, by simp [performsTxTick, h.edges m, hreset m hm, txTickDue, txRuns, hbusy m hm, hlast]⟩
  rx n hen := by
    have hreset : ∀ m, n ≤ m → evRst (r.entry m).bits = false := fun m hm => h.not_rst (.inr (hen (m + 1) (by omega)))
    obtain ⟨m, hm, hlast⟩ := h.count_last rxBitClock hen hreset
    exact ⟨m, hm, by simp [performsRxTick, h.edges m, hreset m hm, rxTickDue, rxRuns, hen m hm, hlast]⟩

end

/-- Settles O47: the edges run on, and a clock that runs from some edge on is due again. -/
theorem edgesAlwaysRun : Obligations.EdgesAlwaysRun :=
  ⟨fun _ es hs => afterEdges_total es hs, fun _ hs hclk => Run.OnlyEdges.fair ⟨hs, hclk⟩⟩

end Sys2Proof.Machine
end
